-- ==== Sys2Proof/Word.lean ====
section
/-! DEFINITION. The words of spec/30_encoding.md: fixed-width selectors, no memory word (R29, R48). -/

namespace Sys2Proof

/-- Format `EV`, the environment stimulus (R40). -/
abbrev EvWord := BitVec 2
/-- Format `EL`, the edge-latch snapshot `R ++ F` (R41). -/
abbrev ElWord := BitVec 2
/-- Format `FS`, the falling-edge selector `done ++ full ++ c ++ z` (R43). -/
abbrev FsWord := BitVec 5
/-- Format `FG`, the foreground sequencer position (R46). -/
abbrev FgWord := BitVec 4
/-- Formats `TK` and `IP`: one bit (R48). -/
abbrev FlagWord := BitVec 1
/-- Format `CW`, the command word: the value of `acc`, `ACC_W` bits wide, so a number (R44). -/
abbrev CwWord := Nat

end Sys2Proof
end

