-- ==== Sys2Proof/Config.lean ====
section
/-! DEFINITION. The implementation parameters of spec/00_scope.md R5 and the model's free values. -/

namespace Sys2Proof

/-- `IRQ_ORDER`: which of a simultaneously enabled tick and edge handler is taken first (R5, R88). -/
inductive IrqOrder where
  | any
  | tickFirst
  | edgeFirst
  deriving DecidableEq, Repr

/-- `GAP_POLICY`: what a gap interval does to the frame in progress (R5, R65). -/
inductive GapPolicy where
  | abort
  | ignore
  deriving DecidableEq, Repr

/-- The implementation parameters, each an argument of the model (R5). -/
structure Params where
  /-- `TICK_US`, µs -/
  tickUs : Nat
  /-- `TICK_W`, bits -/
  tickW : Nat
  /-- `ACC_W`, bits -/
  accW : Nat
  /-- `IDX_MAX`, bits per frame; R5's constraint is `IDX_MAX = 32` -/
  idxMax : Nat
  /-- `T1`, ticks -/
  t1 : Nat
  /-- `THDR`, ticks -/
  tHdr : Nat
  /-- `TGAP`, ticks -/
  tGap : Nat
  /-- `SETTLE_US`, µs; timing only, no rule reads it -/
  settleUs : Nat
  /-- `FAULT_TOGGLES` -/
  faultToggles : Nat
  /-- `HDR_ERR_TOGGLES` -/
  hdrErrToggles : Nat
  /-- `HDR_ERR_RESET` -/
  hdrErrReset : Bool
  /-- `GAP_POLICY` -/
  gapPolicy : GapPolicy
  /-- `LOOPTOP_CLEAR` -/
  looptopClear : Bool
  /-- `PWM_PERIOD_US`, µs -/
  pwmPeriodUs : Nat
  /-- `W_A`, µs -/
  widthA : Nat
  /-- `W_B`, µs -/
  widthB : Nat
  /-- `W_C`, µs -/
  widthC : Nat
  /-- `DWELL_US`, µs; timing only, no rule reads it -/
  dwellUs : Nat
  /-- `CODE_A` -/
  codeA : CwWord
  /-- `CODE_B` -/
  codeB : CwWord
  /-- `CODE_C` -/
  codeC : CwWord
  /-- `CODE_T` -/
  codeT : CwWord
  /-- `IRQ_ORDER` -/
  irqOrder : IrqOrder
  /-- `IND_RESET` -/
  indReset : Bool
  /-- `CALIB_VALID`, which R5 gives no default -/
  calibValid : Bool
  deriving DecidableEq, Repr

/-- The default column of R5; `CALIB_VALID` has no default and stays an argument. -/
def Params.defaults (calibValid : Bool) : Params where
  tickUs := 100
  tickW := 16
  accW := 32
  idxMax := 32
  t1 := 8
  tHdr := 20
  tGap := 60
  settleUs := 100
  faultToggles := 3
  hdrErrToggles := 1
  hdrErrReset := false
  gapPolicy := .abort
  looptopClear := false
  pwmPeriodUs := 20000
  widthA := 750
  widthB := 1500
  widthC := 2250
  dwellUs := 1000000
  codeA := 0x20DF00FF
  codeB := 0x20DF807F
  codeC := 0x20DF40BF
  codeT := 0x20DFC03F
  irqOrder := .any
  indReset := false
  calibValid := calibValid

/-- The constraints of R5 on the parameters. -/
abbrev Params.Valid (p : Params) : Prop :=
  0 < p.t1 ∧ p.t1 < p.tHdr ∧ p.tHdr < p.tGap ∧ p.tGap < 2 ^ p.tickW ∧ p.idxMax ≤ p.accW ∧ p.idxMax = 32 ∧
  1 ≤ p.faultToggles ∧ 1 ≤ p.hdrErrToggles ∧
  [p.codeA, p.codeB, p.codeC, p.codeT].Nodup ∧ ∀ c ∈ [p.codeA, p.codeB, p.codeC, p.codeT], c < 2 ^ 32

namespace Config

/-- Whether the boot-time calibration data is intact (R5: "model argument, no default"). FREE VALUE: no body, so
nothing can be proved of which one it is (log 2). -/
opaque calibValid : Bool

/-- Which of the enabled steps is taken at the n-th free choice (R10, R88). FREE VALUE: no body (log 3). -/
opaque freeChoice : Nat → Nat

end Config
end Sys2Proof
end

