-- ==== Sys2Proof/Syntax.lean ====
section
/-! DEFINITION. The instructions: one constructor per row of spec/opcode_table.json, and the rows' names. -/

namespace Sys2Proof

/-- An actuator position `p ∈ {A, B, C}` (R24, R45); `pp = 00` is reserved and has no constructor. -/
inductive Position where
  | a
  | b
  | c
  deriving DecidableEq, Repr

/-- The steps and arms of the block, one constructor per opcode-table row. -/
inductive Instr where
  /-- EV_RISE (R53) -/
  | evRise
  /-- EV_FALL (R54) -/
  | evFall
  /-- EV_TICK (R50) -/
  | evTick
  /-- ISR_TICK (R51) -/
  | isrTick
  /-- ISR_EDGE_BEGIN (R55), with the latch bits `R` and `F` it reads -/
  | isrEdgeBegin (r f : Bool)
  /-- EDGE_DOUBLE (R56) -/
  | edgeDouble
  /-- EDGE_RISE (R57) -/
  | edgeRise
  /-- EDGE_FALL (R58) -/
  | edgeFall
  /-- EDGE_NONE (R66) -/
  | edgeNone
  /-- FALL_IDLE (R59) -/
  | fallIdle
  /-- FALL_FULL (R60) -/
  | fallFull
  /-- FALL_BIT0 (R61) -/
  | fallBit0
  /-- FALL_BIT1 (R62) -/
  | fallBit1
  /-- FALL_HDR_OK (R63) -/
  | fallHdrOk
  /-- FALL_HDR_ERR (R64) -/
  | fallHdrErr
  /-- FALL_GAP (R65) -/
  | fallGap
  /-- ISR_EDGE_END (R67) -/
  | isrEdgeEnd
  /-- BOOT_OK (R98) -/
  | bootOk
  /-- BOOT_HALT (R99) -/
  | bootHalt
  /-- DISP_CLEAR (R69) -/
  | dispClear
  /-- DISP_WAIT (R70) -/
  | dispWait
  /-- DISP_REARM (R71) -/
  | dispRearm
  /-- DISP_DISPATCH (R72) -/
  | dispDispatch
  /-- CMD_POS_A (R73) -/
  | cmdPosA
  /-- CMD_POS_B (R74) -/
  | cmdPosB
  /-- CMD_POS_C (R75) -/
  | cmdPosC
  /-- CMD_TOGGLE (R76) -/
  | cmdToggle
  /-- CMD_OTHER (R77), with the unrecognized command word -/
  | cmdOther (cw : CwWord)
  /-- ACT_ENTER (R79) at `ACT(p)` -/
  | actEnter (p : Position)
  /-- ACT_EXIT (R81) at `DWELL(p)` -/
  | actExit (p : Position)
  deriving DecidableEq, Repr

/-- The mnemonics: the lines of a script (R49) and the names of the rows. -/
inductive Mnemonic where
  | evRise | evFall | evTick
  | isrTick | isrEdgeBegin
  | edgeDouble | edgeRise | edgeFall | edgeNone
  | fallIdle | fallFull | fallBit0 | fallBit1 | fallHdrOk | fallHdrErr | fallGap
  | isrEdgeEnd
  | bootOk | bootHalt
  | dispClear | dispWait | dispRearm | dispDispatch
  | cmdPosA | cmdPosB | cmdPosC | cmdToggle | cmdOther
  | actEnter | actExit
  deriving DecidableEq, Repr

/-- The row an instruction is written under. -/
def Instr.mnemonic : Instr → Mnemonic
  | .evRise => .evRise
  | .evFall => .evFall
  | .evTick => .evTick
  | .isrTick => .isrTick
  | .isrEdgeBegin _ _ => .isrEdgeBegin
  | .edgeDouble => .edgeDouble
  | .edgeRise => .edgeRise
  | .edgeFall => .edgeFall
  | .edgeNone => .edgeNone
  | .fallIdle => .fallIdle
  | .fallFull => .fallFull
  | .fallBit0 => .fallBit0
  | .fallBit1 => .fallBit1
  | .fallHdrOk => .fallHdrOk
  | .fallHdrErr => .fallHdrErr
  | .fallGap => .fallGap
  | .isrEdgeEnd => .isrEdgeEnd
  | .bootOk => .bootOk
  | .bootHalt => .bootHalt
  | .dispClear => .dispClear
  | .dispWait => .dispWait
  | .dispRearm => .dispRearm
  | .dispDispatch => .dispDispatch
  | .cmdPosA => .cmdPosA
  | .cmdPosB => .cmdPosB
  | .cmdPosC => .cmdPosC
  | .cmdToggle => .cmdToggle
  | .cmdOther _ => .cmdOther
  | .actEnter _ => .actEnter
  | .actExit _ => .actExit

/-- The steps the three agents take (R6); the other rows are arms taken inside ISR_EDGE_BEGIN or DISP_DISPATCH. -/
def Mnemonic.steps : List Mnemonic :=
  [.evRise, .evFall, .evTick, .isrTick, .isrEdgeBegin, .isrEdgeEnd, .bootOk, .bootHalt,
   .dispClear, .dispWait, .dispRearm, .dispDispatch, .actEnter, .actExit]

/-- The steps of the environment (R6 (1)). -/
def Mnemonic.isEnv : Mnemonic → Bool
  | .evRise | .evFall | .evTick => true
  | _ => false

/-- ISR_EDGE_BEGIN and the rows that name it by its arm (R55). -/
def Mnemonic.isEdgeEntry : Mnemonic → Bool
  | .isrEdgeBegin | .edgeDouble | .edgeRise | .edgeFall | .edgeNone
  | .fallIdle | .fallFull | .fallBit0 | .fallBit1 | .fallHdrOk | .fallHdrErr | .fallGap => true
  | _ => false

/-- DISP_DISPATCH and the rows that name it by its arm (R72). -/
def Mnemonic.isDispatch : Mnemonic → Bool
  | .dispDispatch | .cmdPosA | .cmdPosB | .cmdPosC | .cmdToggle | .cmdOther => true
  | _ => false

/-- The steps of the foreground (R6 (3)). -/
def Mnemonic.isFg : Mnemonic → Bool
  | .bootOk | .bootHalt | .dispClear | .dispWait | .dispRearm | .actEnter | .actExit => true
  | m => m.isDispatch

end Sys2Proof
end

