-- ==== Sys2Proof/WellFormed.lean ====
section
/-! DEFINITION. Which instructions have an encoding, under given parameters. -/

namespace Sys2Proof

/-- The entries of the Actuator Command Table (R25, R44). -/
def Params.codes (p : Params) : List CwWord := [p.codeA, p.codeB, p.codeC, p.codeT]

/-- An instruction is well formed when its word can be met under `p`: ISR_EDGE_BEGIN never reads `EL = 00` (R47 (b)),
`FG = 0000` is BOOT_OK or BOOT_HALT by `CALIB_VALID` (R46), and CMD_OTHER's word is an `ACC_W`-bit value outside the
table (R44). -/
def Instr.wellFormed (p : Params) : Instr → Bool
  | .isrEdgeBegin r f => r || f
  | .bootOk => p.calibValid
  | .bootHalt => !p.calibValid
  | .cmdOther cw => decide (cw < 2 ^ p.accW) && !p.codes.contains cw
  | .evRise | .evFall | .evTick | .isrTick
  | .edgeDouble | .edgeRise | .edgeFall | .edgeNone
  | .fallIdle | .fallFull | .fallBit0 | .fallBit1 | .fallHdrOk | .fallHdrErr | .fallGap
  | .isrEdgeEnd | .dispClear | .dispWait | .dispRearm | .dispDispatch
  | .cmdPosA | .cmdPosB | .cmdPosC | .cmdToggle
  | .actEnter _ | .actExit _ => true

end Sys2Proof
end

