-- ==== Sys2Proof/Decode.lean ====
section
/-! DEFINITION. Decoding the selector words of spec/30_encoding.md, the encoder, and the table's rows.
No word names its own format (R48): the format is known from what is being selected, so a selector is a word with its
format. -/

namespace Sys2Proof

/-- A selector word with its format (R40 to R48). `EL` is read twice: at the entry (`el`, row ISR_EDGE_BEGIN) and to
choose the arm (`arm`, rows EDGE_*). -/
inductive Selector where
  | ev (w : EvWord)
  | tk (w : FlagWord)
  | el (w : ElWord)
  | arm (w : ElWord)
  | fs (w : FsWord)
  | ip (w : FlagWord)
  | fg (w : FgWord)
  | cw (v : CwWord)
  deriving DecidableEq, Repr

/-- Why a word selects no step, by name. -/
inductive Reject where
  /-- `EV = 00`: "not a step; reserved" (R47 (a)) -/
  | noEvent
  /-- `TK = 0`: no tick is pending (R48) -/
  | noTick
  /-- `EL = 00` cannot occur at ISR_EDGE_BEGIN (R47 (b)) -/
  | emptyLatch
  /-- `IP = 0`: no handler is in progress (R48) -/
  | noHandler
  /-- `FG = 0101`: at HALT no step is enabled (R46, R99) -/
  | halted
  /-- `FG` 0110, 0111, 1000 or 1100, or `pp = 00` (R47 (d)) -/
  | reservedPosition
  /-- a number of more than `ACC_W` bits is no command word (R44) -/
  | wideCommand
  deriving DecidableEq, Repr

/-- What decoding a selector answers. -/
inductive Decoded where
  | instr (i : Instr)
  | reject (r : Reject)
  deriving DecidableEq, Repr

/-- The arms of ISR_EDGE_BEGIN (R41). -/
inductive EdgeArm where
  | double | rise | fall | none
  deriving DecidableEq, Repr

/-- The arms of EDGE_FALL (R43). -/
inductive FallArm where
  | idle | full | bit0 | bit1 | hdrOk | hdrErr | gap
  deriving DecidableEq, Repr

/-- The arms of DISP_DISPATCH (R44). -/
inductive CmdArm where
  | posA | posB | posC | toggle | other
  deriving DecidableEq, Repr

/-- The arm `EL` selects (R41). -/
def selectEdge (w : ElWord) : EdgeArm :=
  if w = 0b11 then .double
  else if w = 0b10 then .rise
  else if w = 0b01 then .fall
  else .none

/-- The arm `FS` selects: the first matching row of R43, top to bottom; the last row `0011x` is what is left. -/
def selectFall (w : FsWord) : FallArm :=
  if w &&& 0b10000 = 0b10000 then .idle
  else if w &&& 0b11000 = 0b01000 then .full
  else if w &&& 0b11110 = 0b00000 then .bit0
  else if w &&& 0b11110 = 0b00010 then .bit1
  else if w = 0b00101 then .hdrOk
  else if w = 0b00100 then .hdrErr
  else .gap

/-- The arm `CW` selects: the four codes in order, any other value CMD_OTHER (R44, R48). -/
def selectCmd (p : Params) (v : CwWord) : CmdArm :=
  if v = p.codeA then .posA
  else if v = p.codeB then .posB
  else if v = p.codeC then .posC
  else if v = p.codeT then .toggle
  else .other

/-- The instruction of an edge arm. -/
def EdgeArm.instr : EdgeArm → Instr
  | .double => .edgeDouble
  | .rise => .edgeRise
  | .fall => .edgeFall
  | .none => .edgeNone

/-- The instruction of a falling-edge arm. -/
def FallArm.instr : FallArm → Instr
  | .idle => .fallIdle
  | .full => .fallFull
  | .bit0 => .fallBit0
  | .bit1 => .fallBit1
  | .hdrOk => .fallHdrOk
  | .hdrErr => .fallHdrErr
  | .gap => .fallGap

/-- The instruction of a command arm, CMD_OTHER carrying the word `v`. -/
def CmdArm.instr (v : CwWord) : CmdArm → Instr
  | .posA => .cmdPosA
  | .posB => .cmdPosB
  | .posC => .cmdPosC
  | .toggle => .cmdToggle
  | .other => .cmdOther v

/-- The position bits `pp` (R45); `00` is reserved. -/
def decodePosition (pp : BitVec 2) : Option Position :=
  if pp = 0b01 then some .a
  else if pp = 0b10 then some .b
  else if pp = 0b11 then some .c
  else none

/-- `pp` of a position (R45). -/
def encodePosition : Position → BitVec 2
  | .a => 0b01
  | .b => 0b10
  | .c => 0b11

/-- A position-carrying `FG` word (R46), rejected where `pp = 00`. -/
def decodeAt (mk : Position → Instr) (pp : BitVec 2) : Decoded :=
  match decodePosition pp with
  | some p => .instr (mk p)
  | none => .reject .reservedPosition

/-- The step enabled at a sequencer position (R46); `FG = 0000` is told apart by `CALIB_VALID`. -/
def decodeFg (p : Params) (w : FgWord) : Decoded :=
  if w = 0b0000 then .instr (if p.calibValid then .bootOk else .bootHalt)
  else if w = 0b0001 then .instr .dispClear
  else if w = 0b0010 then .instr .dispWait
  else if w = 0b0011 then .instr .dispRearm
  else if w = 0b0100 then .instr .dispDispatch
  else if w = 0b0101 then .reject .halted
  else if w &&& 0b1100 = 0b1000 then decodeAt .actEnter (w.extractLsb' 0 2)
  else if w &&& 0b1100 = 0b1100 then decodeAt .actExit (w.extractLsb' 0 2)
  else .reject .reservedPosition

/-- Decode a selector word; total, rejecting by name. -/
def decode (p : Params) : Selector → Decoded
  | .ev w =>
    if w = 0b01 then .instr .evRise
    else if w = 0b10 then .instr .evFall
    else if w = 0b11 then .instr .evTick
    else .reject .noEvent
  | .tk w => if w = 1 then .instr .isrTick else .reject .noTick
  | .el w => if w = 0b00 then .reject .emptyLatch else .instr (.isrEdgeBegin (w.getLsbD 1) (w.getLsbD 0))
  | .arm w => .instr (selectEdge w).instr
  | .fs w => .instr (selectFall w).instr
  | .ip w => if w = 1 then .instr .isrEdgeEnd else .reject .noHandler
  | .fg w => decodeFg p w
  | .cw v => if v < 2 ^ p.accW then .instr ((selectCmd p v).instr v) else .reject .wideCommand

/-- The latch word `R ++ F` (R41). -/
def elWord (r f : Bool) : ElWord := BitVec.ofBool r ++ BitVec.ofBool f

/-- The word of an instruction, written from the tables of R40 to R48; don't-care bits are 0. -/
def encode (p : Params) : Instr → Selector
  | .evRise => .ev 0b01
  | .evFall => .ev 0b10
  | .evTick => .ev 0b11
  | .isrTick => .tk 1
  | .isrEdgeBegin r f => .el (elWord r f)
  | .edgeDouble => .arm 0b11
  | .edgeRise => .arm 0b10
  | .edgeFall => .arm 0b01
  | .edgeNone => .arm 0b00
  | .fallIdle => .fs 0b10000
  | .fallFull => .fs 0b01000
  | .fallBit0 => .fs 0b00000
  | .fallBit1 => .fs 0b00010
  | .fallHdrOk => .fs 0b00101
  | .fallHdrErr => .fs 0b00100
  | .fallGap => .fs 0b00110
  | .isrEdgeEnd => .ip 1
  | .bootOk => .fg 0b0000
  | .bootHalt => .fg 0b0000
  | .dispClear => .fg 0b0001
  | .dispWait => .fg 0b0010
  | .dispRearm => .fg 0b0011
  | .dispDispatch => .fg 0b0100
  | .cmdPosA => .cw p.codeA
  | .cmdPosB => .cw p.codeB
  | .cmdPosC => .cw p.codeC
  | .cmdToggle => .cw p.codeT
  | .cmdOther v => .cw v
  | .actEnter q => .fg (0b10#2 ++ encodePosition q)
  | .actExit q => .fg (0b11#2 ++ encodePosition q)

/-- A row of spec/opcode_table.json: its format's width, its mask and its pattern. -/
structure TableRow where
  mnemonic : Mnemonic
  width : Nat
  mask : Nat
  pattern : Nat
  deriving DecidableEq, Repr

/-- The thirty rows, in the table's order. -/
def tableRows : List TableRow :=
  [⟨.evRise, 2, 0x3, 0x1⟩, ⟨.evFall, 2, 0x3, 0x2⟩, ⟨.evTick, 2, 0x3, 0x3⟩,
   ⟨.isrTick, 1, 0x1, 0x1⟩, ⟨.isrEdgeBegin, 2, 0x0, 0x0⟩,
   ⟨.edgeDouble, 2, 0x3, 0x3⟩, ⟨.edgeRise, 2, 0x3, 0x2⟩, ⟨.edgeFall, 2, 0x3, 0x1⟩, ⟨.edgeNone, 2, 0x3, 0x0⟩] ++
  [⟨.fallIdle, 5, 0x10, 0x10⟩, ⟨.fallFull, 5, 0x18, 0x08⟩, ⟨.fallBit0, 5, 0x1E, 0x00⟩, ⟨.fallBit1, 5, 0x1E, 0x02⟩,
   ⟨.fallHdrOk, 5, 0x1F, 0x05⟩, ⟨.fallHdrErr, 5, 0x1F, 0x04⟩, ⟨.fallGap, 5, 0x1E, 0x06⟩] ++
  [⟨.isrEdgeEnd, 1, 0x1, 0x1⟩, ⟨.bootOk, 4, 0xF, 0x0⟩, ⟨.bootHalt, 4, 0xF, 0x0⟩,
   ⟨.dispClear, 4, 0xF, 0x1⟩, ⟨.dispWait, 4, 0xF, 0x2⟩, ⟨.dispRearm, 4, 0xF, 0x3⟩, ⟨.dispDispatch, 4, 0xF, 0x4⟩] ++
  [⟨.cmdPosA, 32, 0xFFFFFFFF, 0x20DF00FF⟩, ⟨.cmdPosB, 32, 0xFFFFFFFF, 0x20DF807F⟩,
   ⟨.cmdPosC, 32, 0xFFFFFFFF, 0x20DF40BF⟩, ⟨.cmdToggle, 32, 0xFFFFFFFF, 0x20DFC03F⟩, ⟨.cmdOther, 32, 0x0, 0x0⟩,
   ⟨.actEnter, 4, 0xC, 0x8⟩, ⟨.actExit, 4, 0xC, 0xC⟩]

/-- The selector a row's number stands for: the row's format with that word. -/
def Mnemonic.selector (m : Mnemonic) (w : Nat) : Selector :=
  match m with
  | .evRise | .evFall | .evTick => .ev (BitVec.ofNat 2 w)
  | .isrTick => .tk (BitVec.ofNat 1 w)
  | .isrEdgeBegin => .el (BitVec.ofNat 2 w)
  | .edgeDouble | .edgeRise | .edgeFall | .edgeNone => .arm (BitVec.ofNat 2 w)
  | .fallIdle | .fallFull | .fallBit0 | .fallBit1 | .fallHdrOk | .fallHdrErr | .fallGap => .fs (BitVec.ofNat 5 w)
  | .isrEdgeEnd => .ip (BitVec.ofNat 1 w)
  | .bootOk | .bootHalt | .dispClear | .dispWait | .dispRearm | .dispDispatch | .actEnter | .actExit =>
    .fg (BitVec.ofNat 4 w)
  | .cmdPosA | .cmdPosB | .cmdPosC | .cmdToggle | .cmdOther => .cw w

/-- The number of a selector's word, bit 0 its least significant. -/
def Selector.number : Selector → Nat
  | .ev w | .el w | .arm w => w.toNat
  | .tk w | .ip w => w.toNat
  | .fs w => w.toNat
  | .fg w => w.toNat
  | .cw v => v

/-- A row's number matches its mask and pattern. -/
def TableRow.holds (r : TableRow) (w : Nat) : Bool := decide (w < 2 ^ r.width) && (w &&& r.mask) == r.pattern

/-- A row is asked for by its width, in bits or in whole bytes. -/
def TableRow.hasWidth (r : TableRow) (nbits : Nat) : Bool := r.width == nbits || (r.width + 7) / 8 * 8 == nbits

/-- The instruction of one row at the number `w`, if the decoder gives that row there. -/
def TableRow.read (r : TableRow) (w : Nat) : Option Instr :=
  if r.holds w then
    match decode (Params.defaults true) (r.mnemonic.selector w) with
    | .instr i => if i.mnemonic = r.mnemonic then some i else none
    | .reject _ => none
  else none

/-- The instruction the decoder reads from a number that comes WITHOUT its format. Several formats share a number (`1`
is a word of EV, TK, EL, FS, IP and FG), so the number alone does not say which row is meant: the answer is the first
row of the table, in the table's order, that this width admits and the decoder gives (log 14). Default parameters,
`CALIB_VALID` taken as true. -/
def decodeTableWord (nbits w : Nat) : Option Instr :=
  (tableRows.filter (·.hasWidth nbits)).findSome? (·.read w)

end Sys2Proof
end

