-- ==== Sys2Proof/Machine/State.lean ====
section
/-! DEFINITION. The state vector of spec/10_state.md (R11), the reasons a step can stop, and reset (R27). -/

namespace Sys2Proof.Machine

/-- The edge latch `elatch` (S4): rising edge seen, falling edge seen (R17). -/
structure EdgeLatch where
  r : Bool
  f : Bool
  deriving DecidableEq, Repr

/-- `tmr.mode` (R19). -/
inductive TimerMode where
  | tick
  | pwm
  deriving DecidableEq, Repr

/-- The value of `tmr` (S6): R19's two legal configurations and no other, which R47 (e) lets a model exclude by type. Their
record is `TimerCfg.record`. -/
inductive TimerCfg where
  /-- `TICKCFG` -/
  | tickCfg
  /-- `PWMCFG(w)` with `w = width(p)` -/
  | pwmCfg (p : Position)
  deriving DecidableEq, Repr

/-- The fields of `TMRCFG` (R19). -/
structure TimerRecord where
  mode : TimerMode
  /-- `period_us` -/
  periodUs : Nat
  /-- `width_us` -/
  widthUs : Nat
  /-- the tick interrupt enable -/
  tie : Bool
  deriving DecidableEq, Repr

/-- The handler in progress `isr` (S9, R21). -/
inductive Handler where
  | none
  | edgeSettle
  deriving DecidableEq, Repr

/-- The actuator pin `act` (S10, R22): low, or a waveform of the given pulse width in µs. -/
inductive ActPin where
  | low
  | pwm (widthUs : Nat)
  deriving DecidableEq, Repr

/-- The foreground position `fg` (S12, R24); reserved `FG` words have no constructor (R47 (d)). -/
inductive FgPos where
  | boot
  | l1
  | l2
  | l3
  | l4
  | act (p : Position)
  | dwell (p : Position)
  | halt
  deriving DecidableEq, Repr

/-- A pin event of `obs` (R9): "indicator now at level `l`", "actuator now at `a`". -/
inductive PinEvent where
  | ind (level : Bool)
  | act (pin : ActPin)
  deriving DecidableEq, Repr

/-- The diag codes of `dtr` (R84). -/
inductive Diag where
  | doubleEdge
  | hdrMidframe
  | gapAbort
  | cmdUnrecognized
  | bootCalibHalt
  deriving DecidableEq, Repr

/-- The state of the block: one field per row of R11's table, then the model's own three. -/
structure State where
  /-- S0, the Tick Counter, a `TICK_W`-bit value (R12) -/
  tick : Nat
  /-- S1, the Bit Accumulator, an `ACC_W`-bit value (R13) -/
  acc : Nat
  /-- S2, the Bit Index, 0..32 (R14); 33..63 are excluded by type (R47 (e)) -/
  idx : Fin 33
  /-- S3, the Frame-Ready Flag: "not currently inside a frame" (R15) -/
  done : Bool
  /-- S4 (R17) -/
  elatch : EdgeLatch
  /-- S5, tick interrupt pending (R18) -/
  tpend : Bool
  /-- S6 (R19) -/
  tmr : TimerCfg
  /-- S7, edge interrupt enable (R20) -/
  eie : Bool
  /-- S8, global interrupt enable (R21) -/
  gie : Bool
  /-- S9 (R21) -/
  isr : Handler
  /-- S10 (R22) -/
  act : ActPin
  /-- S11, the indicator pin (R23) -/
  ind : Bool
  /-- S12 (R24) -/
  fg : FgPos
  /-- S13, pin events, oldest first (R26) -/
  obs : List PinEvent
  /-- S14, diag codes, oldest first (R26) -/
  dtr : List Diag
  /-- the model's: the parameters of R5, which no step writes (log 1) -/
  params : Params
  /-- the model's: the script lines still to be taken (R49, log 3) -/
  script : List Mnemonic
  /-- the model's: how many free choices have been made (log 3) -/
  turn : Nat
  deriving DecidableEq, Repr

/-- Why the machine stops with a fault. -/
inductive Fault where
  /-- A script line asks for a foreground step at HALT, the "unrecoverable trap loop": stuck for ever (R99, I15).
  Raised by `step`. Safe: the block does nothing there either. -/
  | halted
  /-- A reserved `FG` word (R47 (d)). Raised by `step` on a decoder's answer that the type of `fg` excludes. Safe. -/
  | reservedPosition
  deriving DecidableEq, Repr

/-- Why the machine has no next state for what it is asked. -/
inductive Refusal where
  /-- An instruction without a meaning; no arm uses it. -/
  | notModelled (mnemonic : String)
  /-- The step's enabling condition is false: it "cannot be taken" (R10). Raised by every meaning and by `step`. Safe. -/
  | notEnabled (m : Mnemonic)
  /-- `EV = 00` "is not a step" (R47 (a)). Raised by `step` on a decoder's answer no script line leads to. Safe. -/
  | noEvent
  deriving DecidableEq, Repr

/-- The state right after reset, for the parameters `p` (R27, R97). `tmr` is unspecified before BOOT_OK: a named legal value
that no rule reads (log 7). -/
def State.resetWith (p : Params) : State where
  tick := 0
  acc := 0
  idx := 0
  done := true
  elatch := ⟨false, false⟩
  tpend := false
  tmr := .tickCfg
  eie := false
  gie := false
  isr := .none
  act := .low
  ind := p.indReset
  fg := .boot
  obs := []
  dtr := []
  params := p
  script := []
  turn := 0

/-- Reset with the default parameters of R5 and an unknown `CALIB_VALID` (log 2). -/
def State.reset : State := State.resetWith (Params.defaults Config.calibValid)

end Sys2Proof.Machine
end

