-- ==== Sys2Proof/Machine/Ops.lean ====
section
/-! DEFINITION. The named operations over the state: the primitives of R9, the timer and latch writes, entry to a
handler and return from it. The block has no memory (R29), so there is no memory operation. -/

namespace Sys2Proof.Machine

/-- A value truncated to `w` bits (R8, R9). -/
def truncTo (w v : Nat) : Nat := v % 2 ^ w

/-- The cause number of a diag code (R84). -/
def Diag.code : Diag → Nat
  | .doubleEdge => 1
  | .hdrMidframe => 2
  | .gapAbort => 3
  | .cmdUnrecognized => 4
  | .bootCalibHalt => 5

/-- `width(p)` (R45). -/
def widthOf (p : Params) : Position → Nat
  | .a => p.widthA
  | .b => p.widthB
  | .c => p.widthC

/-- The record of a configuration: `TICKCFG = {Tick, TICK_US, 0, 1}`, `PWMCFG(w) = {Pwm, PWM_PERIOD_US, w, 0}` (R19). -/
def TimerCfg.record (p : Params) : TimerCfg → TimerRecord
  | .tickCfg => ⟨.tick, p.tickUs, 0, true⟩
  | .pwmCfg q => ⟨.pwm, p.pwmPeriodUs, widthOf p q, false⟩

namespace State

/-- The timer record as the rules read it (R19). -/
def timer (s : State) : TimerRecord := s.tmr.record s.params

/-- `fg <- L` (R9). -/
def goto (s : State) (pos : FgPos) : State := { s with fg := pos }

/-- `diag k` (R9, R84). -/
def diag (s : State) (d : Diag) : State := { s with dtr := s.dtr ++ [d] }

/-- `ind <- 1 - ind ; emit Ind(ind)` (R23). -/
def toggle (s : State) : State := { s with ind := !s.ind, obs := s.obs ++ [.ind !s.ind] }

/-- `repeat n times` the toggle, all inside one step (R56, R64). -/
def toggles (s : State) : Nat → State
  | 0 => s
  | n + 1 => s.toggle.toggles n

/-- `act <- a ; emit Act(a)` (R22). -/
def drive (s : State) (a : ActPin) : State := { s with act := a, obs := s.obs ++ [.act a] }

/-- `tick <- (tick + 1) mod 2^TICK_W` (R51). -/
def countTick (s : State) : State := { s with tick := truncTo s.params.tickW (s.tick + 1) }

/-- `tick <- 0` (R57). -/
def zeroTick (s : State) : State := { s with tick := 0 }

/-- `acc <- ((acc << 1) | b) mod 2^ACC_W` (R61, R62). -/
def shiftIn (s : State) (b : Bool) : State :=
  { s with acc := truncTo s.params.accW ((s.acc <<< 1) ||| b.toNat) }

/-- `idx <- idx + 1`, taken only where `idx < 32` (R14). -/
def countBit (s : State) : State :=
  { s with idx := if h : s.idx.val < 32 then ⟨s.idx.val + 1, Nat.succ_lt_succ h⟩ else s.idx }

/-- `acc <- 0` (R69). -/
def clearAcc (s : State) : State := { s with acc := 0 }

/-- `idx <- 0` (R71). -/
def clearIdx (s : State) : State := { s with idx := 0 }

/-- Abandon the frame in progress: `acc <- 0 ; idx <- 0` (R64, R65). -/
def clearFrame (s : State) : State := s.clearAcc.clearIdx

/-- `done <- b` (R57, R71). -/
def setDone (s : State) (b : Bool) : State := { s with done := b }

/-- `elatch <- 00` (R17). -/
def clearLatch (s : State) : State := { s with elatch := ⟨false, false⟩ }

/-- The whole timer record is replaced in one step (R19, R78). -/
def setTimer (s : State) (c : TimerCfg) : State := { s with tmr := c }

/-- `tpend <- b` (R18). -/
def setPending (s : State) (b : Bool) : State := { s with tpend := b }

/-- `eie <- b` (R20). -/
def setEdgeEnable (s : State) (b : Bool) : State := { s with eie := b }

/-- `gie <- 1` (R21). -/
def enableInterrupts (s : State) : State := { s with gie := true }

/-- Entry to the edge handler: nothing is saved, no mask changes, `isr <- EdgeSettle` (R86). The tick handler is one
atomic step and enters nothing (R51). -/
def enterEdge (s : State) : State := { s with isr := .edgeSettle }

/-- Return from the edge handler: the latch is cleared whole and `isr <- None`; nothing is restored (R67, R90). -/
def leaveEdge (s : State) : State := { s with elatch := ⟨false, false⟩, isr := .none }

end State
end Sys2Proof.Machine
end

