-- ==== Sys2Proof/Machine/Operands.lean ====
section
/-! DEFINITION. The operand forms: the selector words as the state holds them, the interval class and the pulse
timing (R41 to R48). -/

namespace Sys2Proof.Machine

/-- The class `c = class(d)` of an interval of `d` ticks, as two bits (R42). -/
def classOf (p : Params) (d : Nat) : BitVec 2 :=
  if d < p.t1 then 0b00
  else if d < p.tHdr then 0b01
  else if d < p.tGap then 0b10
  else 0b11

/-- The thresholds of the source are in µs; in ticks they are divided by `TICK_US` (R7). -/
def ticksOfUs (p : Params) (us : Nat) : Nat := us / p.tickUs

/-- The PWM periods of a dwell (R80); timing, read by no step. -/
def dwellPeriods (p : Params) : Nat := p.dwellUs / p.pwmPeriodUs

/-- The duty cycle of a pulse width, in hundredths of a percent of the period (R45); read by no step. -/
def dutyHundredths (p : Params) (w : Nat) : Nat := w * 10000 / p.pwmPeriodUs

/-- The level of the actuator pin `t` µs after its waveform began: high for the first `w` µs of each period (R80);
timing, read by no step. -/
def ActPin.level (p : Params) (t : Nat) : ActPin → Bool
  | .low => false
  | .pwm w => decide (t % p.pwmPeriodUs < w)

/-- `EL`, the edge-latch snapshot (R41). -/
def readEl (s : State) : ElWord := elWord s.elatch.r s.elatch.f

/-- `FS = done ++ (idx = IDX_MAX) ++ class(tick) ++ (acc = 0 ∧ idx = 0)` (R43). -/
def readFs (s : State) : FsWord :=
  BitVec.ofBool s.done ++ BitVec.ofBool (s.idx.val == s.params.idxMax) ++ classOf s.params s.tick ++
    BitVec.ofBool (s.acc == 0 && s.idx.val == 0)

/-- `TK`: the tick-pending flag (R48). -/
def readTk (s : State) : FlagWord := BitVec.ofBool s.tpend

/-- `IP`: `isr = EdgeSettle` (R48). -/
def readIp (s : State) : FlagWord := BitVec.ofBool (s.isr == .edgeSettle)

/-- `FG` (R46). -/
def readFg (s : State) : FgWord :=
  match s.fg with
  | .boot => 0b0000
  | .l1 => 0b0001
  | .l2 => 0b0010
  | .l3 => 0b0011
  | .l4 => 0b0100
  | .halt => 0b0101
  | .act p => 0b10#2 ++ encodePosition p
  | .dwell p => 0b11#2 ++ encodePosition p

/-- The word a script line's format has in the state. The environment delivers its own word: the event's (R40). -/
def heldWord (s : State) : Mnemonic → Selector
  | .evRise => .ev 0b01
  | .evFall => .ev 0b10
  | .evTick => .ev 0b11
  | .isrTick => .tk (readTk s)
  | .isrEdgeBegin => .el (readEl s)
  | .edgeDouble | .edgeRise | .edgeFall | .edgeNone => .arm (readEl s)
  | .fallIdle | .fallFull | .fallBit0 | .fallBit1 | .fallHdrOk | .fallHdrErr | .fallGap => .fs (readFs s)
  | .isrEdgeEnd => .ip (readIp s)
  | .bootOk | .bootHalt | .dispClear | .dispWait | .dispRearm | .dispDispatch | .actEnter | .actExit =>
    .fg (readFg s)
  | .cmdPosA | .cmdPosB | .cmdPosC | .cmdToggle | .cmdOther => .cw s.acc

end Sys2Proof.Machine
end

