-- ==== Sys2Proof/Machine/Flags.lean ====
section
/-! DEFINITION. The flag computations: the latch and pending flags events set, the Decoder's derived states, and the
enabling condition of every row (R10, R85, R87). -/

namespace Sys2Proof.Machine

namespace State

/-- `elatch.R <- 1`, whatever the enables; a set bit stays set (R17, R53). -/
def latchRise (s : State) : State := { s with elatch := { s.elatch with r := true } }

/-- `elatch.F <- 1` (R17, R54). -/
def latchFall (s : State) : State := { s with elatch := { s.elatch with f := true } }

/-- `BOOT_OK` has run: the sequencer stands neither at BOOT nor at HALT (R98, R99; log 8). -/
def booted (s : State) : Bool := s.fg != .boot && s.fg != .halt

/-- IDLE (R16). -/
def idle (s : State) : Bool := s.done

/-- IN_FRAME (R16): `idx < IDX_MAX`. -/
def inFrame (s : State) : Bool := !s.done && decide (s.idx.val < s.params.idxMax)

/-- FRAME_COMPLETE (R16): `idx = IDX_MAX`, which R5 fixes at 32. -/
def frameComplete (s : State) : Bool := s.idx.val == s.params.idxMax

/-- An edge is latched: `elatch ≠ 00` (R85). -/
def edgePending (s : State) : Bool := s.elatch.r || s.elatch.f

end State

/-- ISR_TICK is enabled: `gie = 1 ∧ isr = None ∧ tmr.tie = 1 ∧ tpend = 1` (R51). -/
def tickEnabled (s : State) : Bool := s.gie && s.isr == .none && s.timer.tie && s.tpend

/-- The edge handler may be entered but for the latch: `gie = 1 ∧ isr = None ∧ eie = 1` (R55). -/
def edgeGate (s : State) : Bool := s.gie && s.isr == .none && s.eie

/-- ISR_EDGE_BEGIN is enabled (R55). -/
def edgeEnabled (s : State) : Bool := edgeGate s && s.edgePending

/-- A foreground step at `pos` is enabled: `fg = pos ∧ isr = None` (R69 to R72, R79, R81, R87; BOOT too, log 9). -/
def fgAt (s : State) (pos : FgPos) : Bool := s.fg == pos && s.isr == .none

/-- An arm of ISR_EDGE_BEGIN is selected by `EL` (R41, R55). -/
def edgeArmEnabled (s : State) (a : EdgeArm) : Bool := edgeGate s && selectEdge (readEl s) == a

/-- An arm of EDGE_FALL is selected by `FS` (R43, R58). -/
def fallArmEnabled (s : State) (a : FallArm) : Bool := edgeArmEnabled s .fall && selectFall (readFs s) == a

/-- The command code an arm of DISP_DISPATCH is enabled by is in `acc` (R73 to R77). -/
def cmdArmEnabled (s : State) (a : CmdArm) : Bool := fgAt s .l4 && selectCmd s.params s.acc == a

/-- The enabling condition of each row. -/
def enabled (s : State) : Mnemonic → Bool
  | .evRise | .evFall | .evTick => true
  | .isrTick => tickEnabled s
  | .isrEdgeBegin => edgeEnabled s
  | .edgeDouble => edgeArmEnabled s .double
  | .edgeRise => edgeArmEnabled s .rise
  | .edgeFall => edgeArmEnabled s .fall
  | .edgeNone => edgeArmEnabled s .none
  | .fallIdle => fallArmEnabled s .idle
  | .fallFull => fallArmEnabled s .full
  | .fallBit0 => fallArmEnabled s .bit0
  | .fallBit1 => fallArmEnabled s .bit1
  | .fallHdrOk => fallArmEnabled s .hdrOk
  | .fallHdrErr => fallArmEnabled s .hdrErr
  | .fallGap => fallArmEnabled s .gap
  | .isrEdgeEnd => s.isr == .edgeSettle
  | .bootOk => fgAt s .boot && s.params.calibValid
  | .bootHalt => fgAt s .boot && !s.params.calibValid
  | .dispClear => fgAt s .l1
  | .dispWait => fgAt s .l2
  | .dispRearm => fgAt s .l3
  | .dispDispatch => fgAt s .l4
  | .cmdPosA => cmdArmEnabled s .posA
  | .cmdPosB => cmdArmEnabled s .posB
  | .cmdPosC => cmdArmEnabled s .posC
  | .cmdToggle => cmdArmEnabled s .toggle
  | .cmdOther => cmdArmEnabled s .other
  | .actEnter => fgAt s (.act .a) || fgAt s (.act .b) || fgAt s (.act .c)
  | .actExit => fgAt s (.dwell .a) || fgAt s (.dwell .b) || fgAt s (.dwell .c)

/-- Take the step `m` to `t` where `c` holds; a step whose enabling condition is false cannot be taken (R10). -/
def takeIf (m : Mnemonic) (c : Bool) (t : State) : Host.Outcome State Fault Refusal :=
  if c then .next t else .refused (.notEnabled m)

end Sys2Proof.Machine
end

