-- ==== Sys2Proof/Machine/Actuator.lean ====
section
/-! DEFINITION. The Actuator Driver (spec/43_actuator_driver.md). -/

namespace Sys2Proof.Machine

/-- ACT_ENTER (R79): the timer becomes the PWM generator, the pending tick is dropped, the Decoder is suspended. -/
def execActEnter (p : Position) (s : State) : Host.Outcome State Fault Refusal :=
  takeIf .actEnter (fgAt s (.act p))
    (((((s.setTimer (.pwmCfg p)).setPending false).setEdgeEnable false).drive
      (.pwm (widthOf s.params p))).goto (.dwell p))

/-- ACT_EXIT (R81): the pin is released, `TICKCFG` restored, the latch cleared, the Decoder resumed. -/
def execActExit (p : Position) (s : State) : Host.Outcome State Fault Refusal :=
  takeIf .actExit (fgAt s (.dwell p))
    (((((s.drive .low).setTimer .tickCfg).clearLatch).setEdgeEnable true).goto .l1)

end Sys2Proof.Machine
end

