-- ==== Sys2Proof/Machine/Boot.lean ====
section
/-! DEFINITION. The bring-up (spec/70_reset_and_hazards.md R98, R99). -/

namespace Sys2Proof.Machine

/-- BOOT_OK (R98). -/
def execBootOk (s : State) : Host.Outcome State Fault Refusal :=
  takeIf .bootOk (enabled s .bootOk)
    ((((((s.setTimer .tickCfg).setPending false).clearLatch).setEdgeEnable true).enableInterrupts).goto .l1)

/-- BOOT_HALT (R99). -/
def execBootHalt (s : State) : Host.Outcome State Fault Refusal :=
  takeIf .bootHalt (enabled s .bootHalt) ((s.diag .bootCalibHalt).goto .halt)

end Sys2Proof.Machine
end

