-- ==== Sys2Proof/Machine/Decoder.lean ====
section
/-! DEFINITION. The Protocol Decoder (spec/41_protocol_decoder.md). An arm's meaning is the whole atomic step of
ISR_EDGE_BEGIN taken with that arm: entry, then the arm's effect (R55). -/

namespace Sys2Proof.Machine

/-- EV_RISE (R53). -/
def execEvRise (s : State) : Host.Outcome State Fault Refusal := .next s.latchRise

/-- EV_FALL (R54). -/
def execEvFall (s : State) : Host.Outcome State Fault Refusal := .next s.latchFall

/-- EDGE_DOUBLE (R56): `FAULT_TOGGLES` toggles and diag 1; the decode state is left untouched. -/
def execEdgeDouble (s : State) : Host.Outcome State Fault Refusal :=
  takeIf .edgeDouble (enabled s .edgeDouble) ((s.enterEdge.toggles s.params.faultToggles).diag .doubleEdge)

/-- EDGE_RISE (R57): IDLE to IN_FRAME where idle, and `tick <- 0` in every state. -/
def execEdgeRise (s : State) : Host.Outcome State Fault Refusal :=
  takeIf .edgeRise (enabled s .edgeRise) ((s.enterEdge.setDone false).zeroTick)

/-- FALL_IDLE (R59): ignored. -/
def execFallIdle (s : State) : Host.Outcome State Fault Refusal :=
  takeIf .fallIdle (enabled s .fallIdle) s.enterEdge

/-- FALL_FULL (R60): ignored. -/
def execFallFull (s : State) : Host.Outcome State Fault Refusal :=
  takeIf .fallFull (enabled s .fallFull) s.enterEdge

/-- FALL_BIT0 (R61). -/
def execFallBit0 (s : State) : Host.Outcome State Fault Refusal :=
  takeIf .fallBit0 (enabled s .fallBit0) ((s.enterEdge.shiftIn false).countBit)

/-- FALL_BIT1 (R62). -/
def execFallBit1 (s : State) : Host.Outcome State Fault Refusal :=
  takeIf .fallBit1 (enabled s .fallBit1) ((s.enterEdge.shiftIn true).countBit)

/-- FALL_HDR_OK (R63): the header is only validated. -/
def execFallHdrOk (s : State) : Host.Outcome State Fault Refusal :=
  takeIf .fallHdrOk (enabled s .fallHdrOk) s.enterEdge

/-- The frame after a header error: abandoned under `HDR_ERR_RESET`, kept otherwise (R64). -/
def afterHdrErr (s : State) : State := if s.params.hdrErrReset then s.clearFrame else s

/-- FALL_HDR_ERR (R64): `HDR_ERR_TOGGLES` toggles, diag 2, and the reset policy. -/
def execFallHdrErr (s : State) : Host.Outcome State Fault Refusal :=
  takeIf .fallHdrErr (enabled s .fallHdrErr)
    (afterHdrErr ((s.enterEdge.toggles s.params.hdrErrToggles).diag .hdrMidframe))

/-- The frame after a gap: abandoned with diag 3 under `abort`, kept under `ignore` (R65). -/
def afterGap (s : State) : State :=
  match s.params.gapPolicy with
  | .abort => s.clearFrame.diag .gapAbort
  | .ignore => s

/-- FALL_GAP (R65); `done` and `tick` are unchanged in both policies. -/
def execFallGap (s : State) : Host.Outcome State Fault Refusal :=
  takeIf .fallGap (enabled s .fallGap) (afterGap s.enterEdge)

/-- EDGE_FALL (R58): the first matching row of the falling-edge selector. -/
def execEdgeFall (s : State) : Host.Outcome State Fault Refusal :=
  if enabled s .edgeFall then
    match selectFall (readFs s) with
    | .idle => execFallIdle s
    | .full => execFallFull s
    | .bit0 => execFallBit0 s
    | .bit1 => execFallBit1 s
    | .hdrOk => execFallHdrOk s
    | .hdrErr => execFallHdrErr s
    | .gap => execFallGap s
  else .refused (.notEnabled .edgeFall)

/-- EDGE_NONE (R66): nothing but the entry. No ISR_EDGE_BEGIN leads here, since that step needs `elatch ≠ 00`
(log 6). -/
def execEdgeNone (s : State) : Host.Outcome State Fault Refusal :=
  takeIf .edgeNone (enabled s .edgeNone) s.enterEdge

/-- ISR_EDGE_BEGIN (R55): `r` and `f` are the latch bits, read at once; the arm runs in the same step. -/
def execIsrEdgeBegin (r f : Bool) (s : State) : Host.Outcome State Fault Refusal :=
  if enabled s .isrEdgeBegin && s.elatch == ⟨r, f⟩ then
    match selectEdge (elWord r f) with
    | .double => execEdgeDouble s
    | .rise => execEdgeRise s
    | .fall => execEdgeFall s
    | .none => execEdgeNone s
  else .refused (.notEnabled .isrEdgeBegin)

/-- ISR_EDGE_END (R67): edges latched during the settle are cleared with the rest. -/
def execIsrEdgeEnd (s : State) : Host.Outcome State Fault Refusal :=
  takeIf .isrEdgeEnd (enabled s .isrEdgeEnd) s.leaveEdge

end Sys2Proof.Machine
end

