-- ==== Sys2Proof/Machine/Dispatcher.lean ====
section
/-! DEFINITION. The Command Dispatcher (spec/42_command_dispatcher.md). -/

namespace Sys2Proof.Machine

/-- The loop-top variant: under `LOOPTOP_CLEAR` the edge latch is cleared too (R69). -/
def loopTop (s : State) : State := if s.params.looptopClear then s.clearLatch else s

/-- DISP_CLEAR (R69). -/
def execDispClear (s : State) : Host.Outcome State Fault Refusal :=
  takeIf .dispClear (enabled s .dispClear) ((loopTop s.clearAcc).goto .l2)

/-- DISP_WAIT (R70): spin until `idx = 32`. -/
def execDispWait (s : State) : Host.Outcome State Fault Refusal :=
  takeIf .dispWait (enabled s .dispWait) (s.goto (if s.frameComplete then .l3 else .l2))

/-- DISP_REARM (R71): `acc` keeps the completed frame. -/
def execDispRearm (s : State) : Host.Outcome State Fault Refusal :=
  takeIf .dispRearm (enabled s .dispRearm) ((s.clearIdx.setDone true).goto .l4)

/-- CMD_POS_A (R73). -/
def execCmdPosA (s : State) : Host.Outcome State Fault Refusal :=
  takeIf .cmdPosA (enabled s .cmdPosA) (s.goto (.act .a))

/-- CMD_POS_B (R74). -/
def execCmdPosB (s : State) : Host.Outcome State Fault Refusal :=
  takeIf .cmdPosB (enabled s .cmdPosB) (s.goto (.act .b))

/-- CMD_POS_C (R75). -/
def execCmdPosC (s : State) : Host.Outcome State Fault Refusal :=
  takeIf .cmdPosC (enabled s .cmdPosC) (s.goto (.act .c))

/-- CMD_TOGGLE (R76). -/
def execCmdToggle (s : State) : Host.Outcome State Fault Refusal :=
  takeIf .cmdToggle (enabled s .cmdToggle) (s.toggle.goto .l1)

/-- CMD_OTHER (R77): `cw` is the word in `acc`; `idx` is reset again and diag 4 recorded. -/
def execCmdOther (cw : CwWord) (s : State) : Host.Outcome State Fault Refusal :=
  takeIf .cmdOther (enabled s .cmdOther && s.acc == cw) ((s.clearIdx.diag .cmdUnrecognized).goto .l1)

/-- DISP_DISPATCH (R72): `acc` is read now, all its bits, and selects the arm. -/
def execDispDispatch (s : State) : Host.Outcome State Fault Refusal :=
  if enabled s .dispDispatch then
    match selectCmd s.params s.acc with
    | .posA => execCmdPosA s
    | .posB => execCmdPosB s
    | .posC => execCmdPosC s
    | .toggle => execCmdToggle s
    | .other => execCmdOther s.acc s
  else .refused (.notEnabled .dispDispatch)

end Sys2Proof.Machine
end

