-- ==== Sys2Proof/Machine/TimeBase.lean ====
section
/-! DEFINITION. The Time Base (spec/40_time_base.md). -/

namespace Sys2Proof.Machine

/-- EV_TICK (R50): a period's end sets `tpend` in TickMode, and does nothing in PwmMode or before BOOT_OK. -/
def execEvTick (s : State) : Host.Outcome State Fault Refusal :=
  .next (if s.booted && s.timer.mode == .tick then s.setPending true else s)

/-- ISR_TICK (R51): count the tick and clear `tpend`, in one atomic step. -/
def execIsrTick (s : State) : Host.Outcome State Fault Refusal :=
  takeIf .isrTick (enabled s .isrTick) (s.countTick.setPending false)

end Sys2Proof.Machine
end

