-- ==== Sys2Proof/Machine/Dispatch.lean ====
section
/-! DEFINITION. One arm per instruction: each calls its own meaning. -/

namespace Sys2Proof.Machine

def exec (i : Instr) (s : State) : Host.Outcome State Fault Refusal :=
  match i with
  | .evRise => Sys2Proof.Machine.execEvRise s
  | .evFall => Sys2Proof.Machine.execEvFall s
  | .evTick => Sys2Proof.Machine.execEvTick s
  | .isrTick => Sys2Proof.Machine.execIsrTick s
  | .isrEdgeBegin r f => Sys2Proof.Machine.execIsrEdgeBegin r f s
  | .edgeDouble => Sys2Proof.Machine.execEdgeDouble s
  | .edgeRise => Sys2Proof.Machine.execEdgeRise s
  | .edgeFall => Sys2Proof.Machine.execEdgeFall s
  | .edgeNone => Sys2Proof.Machine.execEdgeNone s
  | .fallIdle => Sys2Proof.Machine.execFallIdle s
  | .fallFull => Sys2Proof.Machine.execFallFull s
  | .fallBit0 => Sys2Proof.Machine.execFallBit0 s
  | .fallBit1 => Sys2Proof.Machine.execFallBit1 s
  | .fallHdrOk => Sys2Proof.Machine.execFallHdrOk s
  | .fallHdrErr => Sys2Proof.Machine.execFallHdrErr s
  | .fallGap => Sys2Proof.Machine.execFallGap s
  | .isrEdgeEnd => Sys2Proof.Machine.execIsrEdgeEnd s
  | .bootOk => Sys2Proof.Machine.execBootOk s
  | .bootHalt => Sys2Proof.Machine.execBootHalt s
  | .dispClear => Sys2Proof.Machine.execDispClear s
  | .dispWait => Sys2Proof.Machine.execDispWait s
  | .dispRearm => Sys2Proof.Machine.execDispRearm s
  | .dispDispatch => Sys2Proof.Machine.execDispDispatch s
  | .cmdPosA => Sys2Proof.Machine.execCmdPosA s
  | .cmdPosB => Sys2Proof.Machine.execCmdPosB s
  | .cmdPosC => Sys2Proof.Machine.execCmdPosC s
  | .cmdToggle => Sys2Proof.Machine.execCmdToggle s
  | .cmdOther cw => Sys2Proof.Machine.execCmdOther cw s
  | .actEnter p => Sys2Proof.Machine.execActEnter p s
  | .actExit p => Sys2Proof.Machine.execActExit p s

end Sys2Proof.Machine
end

