-- ==== Sys2Proof/Machine/Schedule.lean ====
section
/-! DEFINITION. Which step is taken next: the head of the script, else a free choice among the enabled steps (R6, R10,
R88), and how an instruction is put where the next step finds it. -/

namespace Sys2Proof.Machine

/-- `IRQ_ORDER` admits the step: where both handlers are enabled, only the one it puts first (R88). -/
def admitted (s : State) (m : Mnemonic) : Bool :=
  match s.params.irqOrder with
  | .any => true
  | .tickFirst => !(m.isEdgeEntry && tickEnabled s)
  | .edgeFirst => !(m == .isrTick && edgeEnabled s)

/-- The agents' steps that may be taken; never empty, for the environment may always move (R6 (1)). -/
def choices (s : State) : List Mnemonic := Mnemonic.steps.filter fun m => enabled s m && admitted s m

/-- The step taken next: the script's line, else a free choice (log 3). -/
def nextLine (s : State) : Mnemonic :=
  match s.script with
  | m :: _ => m
  | [] => (choices s).getD (Config.freeChoice s.turn % (choices s).length) .evRise

/-- The state once the choice of the next step is made: the line is consumed, or the free choice counted. -/
def afterPick (s : State) : State :=
  match s.script with
  | _ :: rest => { s with script := rest }
  | [] => { s with turn := s.turn + 1 }

/-- How a word that selects no step ends the run: HALT and reserved positions are fault states (R47 (d), R99), `EV = 00`
is no step (R47 (a)), any other word means the step named is not enabled (R10). -/
def rejected (m : Mnemonic) : Reject → Host.Outcome State Fault Refusal
  | .halted => .fault .halted
  | .reservedPosition => .fault .reservedPosition
  | .noEvent => .refused .noEvent
  | .noTick | .emptyLatch | .noHandler | .wideCommand => .refused (.notEnabled m)

/-- The edge handler may be entered: the gate is open, and no pending tick stands before it under `tick_first`. -/
def openGate (s : State) (l : EdgeLatch) : State :=
  { s with gie := true, isr := .none, eie := true, tpend := false, elatch := l }

/-- A falling edge is latched over the given decode state. -/
def openFall (s : State) (done : Bool) (idx : Fin 33) (acc tick : Nat) : State :=
  { openGate s ⟨false, true⟩ with done := done, idx := idx, acc := acc, tick := tick }

/-- The state with the elements that select `i` set so that they hold its word and `i` is enabled: the words of this
block ARE its state elements (spec/30_encoding.md, opening), so this is where an instruction is stored (log 15). -/
def hold (s : State) : Instr → State
  | .evRise | .evFall | .evTick => s
  | .isrTick => { s with gie := true, isr := .none, tmr := .tickCfg, tpend := true, elatch := ⟨false, false⟩ }
  | .isrEdgeBegin r f => openGate s ⟨r, f⟩
  | .edgeDouble => openGate s ⟨true, true⟩
  | .edgeRise => openGate s ⟨true, false⟩
  | .edgeFall => openGate s ⟨false, true⟩
  | .edgeNone => openGate s ⟨false, false⟩
  | .fallIdle => openFall s true 0 s.acc s.tick
  | .fallFull => openFall s false 32 s.acc s.tick
  | .fallBit0 => openFall s false 0 s.acc 0
  | .fallBit1 => openFall s false 0 s.acc s.params.t1
  | .fallHdrOk => openFall s false 0 0 s.params.tHdr
  | .fallHdrErr => openFall s false 1 s.acc s.params.tHdr
  | .fallGap => openFall s false 0 s.acc s.params.tGap
  | .isrEdgeEnd => { s with isr := .edgeSettle }
  | .bootOk => { s with fg := .boot, isr := .none, params := { s.params with calibValid := true } }
  | .bootHalt => { s with fg := .boot, isr := .none, params := { s.params with calibValid := false } }
  | .dispClear => { s with fg := .l1, isr := .none }
  | .dispWait => { s with fg := .l2, isr := .none }
  | .dispRearm => { s with fg := .l3, isr := .none }
  | .dispDispatch => { s with fg := .l4, isr := .none }
  | .cmdPosA => { s with fg := .l4, isr := .none, acc := s.params.codeA }
  | .cmdPosB => { s with fg := .l4, isr := .none, acc := s.params.codeB }
  | .cmdPosC => { s with fg := .l4, isr := .none, acc := s.params.codeC }
  | .cmdToggle => { s with fg := .l4, isr := .none, acc := s.params.codeT }
  | .cmdOther cw => { s with fg := .l4, isr := .none, acc := cw }
  | .actEnter p => { s with fg := .act p, isr := .none }
  | .actExit p => { s with fg := .dwell p, isr := .none }

end Sys2Proof.Machine
end

