-- ==== Sys2Proof/Machine/Script.lean ====
section
/-! DEFINITION. The script syntax of R49: a script is a list of mnemonics, and the macros expand to such lists. -/

namespace Sys2Proof.Machine.Script

/-- `REP n S`: `n` copies. -/
def rep : Nat → List Mnemonic → List Mnemonic
  | 0, _ => []
  | n + 1, l => l ++ rep n l

/-- `TICK n`. -/
def tick (n : Nat) : List Mnemonic := rep n [.evTick, .isrTick]

/-- `RISE`. -/
def rise : List Mnemonic := [.evRise, .isrEdgeBegin, .isrEdgeEnd]

/-- `FALL`. -/
def fall : List Mnemonic := [.evFall, .isrEdgeBegin, .isrEdgeEnd]

/-- `NLEAD`: the NEC leader, 9 ms mark and 4.5 ms space. -/
def nlead : List Mnemonic := fall ++ tick 90 ++ rise ++ tick 45 ++ fall

/-- The ticks of a NEC bit's space. -/
def spaceTicks (b : Bool) : Nat := if b then 16 else 5

/-- `NBIT b`. -/
def nbit (b : Bool) : List Mnemonic := tick 5 ++ rise ++ tick (spaceTicks b) ++ fall

/-- `NSTOP`. -/
def nstop : List Mnemonic := tick 5 ++ rise

/-- `n` NEC bits of `v` from bit `lo + n - 1` down to bit `lo`. -/
def bitsFrom (v lo : Nat) : Nat → List Mnemonic
  | 0 => []
  | n + 1 => nbit (v.testBit (lo + n)) ++ bitsFrom v lo n

/-- `BITS v hi lo`, for `hi ≥ lo`. -/
def bits (v hi lo : Nat) : List Mnemonic := bitsFrom v lo (hi + 1 - lo)

/-- `FRAME v`. -/
def frame (v : Nat) : List Mnemonic := nlead ++ bits v 31 0 ++ nstop

end Sys2Proof.Machine.Script
end

