-- ==== Sys2Proof/Machine/Step.lean ====
section
/-! DEFINITION. One step: choose the next line, read its word from the state, decode it, run it. -/

namespace Sys2Proof.Machine

/-- One atomic step of the block (R33, R35). The word read must select the row the line names (R49: "every step named must
be enabled when it is reached"). -/
def step (s : State) : Host.Outcome State Fault Refusal :=
  if admitted s (nextLine s) then
    match decode s.params (heldWord s (nextLine s)) with
    | .instr i => if i.mnemonic = nextLine s then exec i (afterPick s) else .refused (.notEnabled (nextLine s))
    | .reject r => rejected (nextLine s) r
  else .refused (.notEnabled (nextLine s))

/-- Put the instruction of a table word where the next step finds it: its word in the state elements that hold it, its
name at the head of the script (log 15). A number that is no row's word changes nothing. -/
def State.withFetchWord (s : State) (nbits w : Nat) : State :=
  match decodeTableWord nbits w with
  | some i => { hold s i with script := i.mnemonic :: s.script }
  | none => s

end Sys2Proof.Machine
end

