-- ==== Sys2Proof/Safety.lean ====
section
/-! DEFINITION. What claims are stated in: the state invariant (R28 and the ranges of R11), reachable states, and fair
runs (R109). -/

namespace Sys2Proof.Machine

/-- The invariants (a) to (e) of R28; (a) holds by the type of `idx` and is stated all the same. -/
structure R28 (s : State) : Prop where
  idxRange : s.idx.val ≤ 32
  doneIdle : s.done = true → s.idx = 0
  pwmAtDwell : s.booted = true → (s.timer.mode = .pwm ↔ ∃ p, s.fg = .dwell p)
  edgeEnableInTick : s.booted = true → (s.eie = true ↔ s.timer.mode = .tick)
  settleNeedsGie : s.isr = .edgeSettle → s.gie = true

/-- The invariant every step keeps: R28, the parameters' constraints (R5), the widths of `tick` and `acc` (R12, R13),
interrupts on exactly after BOOT_OK (R21, R98, R99), the two timer configurations at their positions (R19), the pin at its
position (R22), and no handler, no tick pending during a dwell (R82). -/
structure StateInv (s : State) : Prop where
  valid : s.params.Valid
  tickWidth : s.tick < 2 ^ s.params.tickW
  accWidth : s.acc < 2 ^ s.params.accW
  doneIdle : s.done = true → s.idx = 0
  gieBooted : s.gie = s.booted
  notBooted : s.booted = false → s.eie = false ∧ s.isr = .none ∧ s.act = .low
  tickMode : s.booted = true → (∀ p, s.fg ≠ .dwell p) →
    s.tmr = .tickCfg ∧ s.eie = true ∧ s.act = .low
  pwmMode : ∀ p, s.fg = .dwell p →
    s.tmr = .pwmCfg p ∧ s.eie = false ∧ s.act = .pwm (widthOf s.params p) ∧
    s.isr = .none ∧ s.tpend = false

/-- The indicator events of `n` toggles that start from the level `l` (R23). -/
def blinks (l : Bool) (n : Nat) : List PinEvent := (List.range n).map fun k => .ind (l ^^ (k % 2 == 0))

/-- Booted, in TickMode, with no handler in progress and nothing pending: where a script of R49 starts. -/
structure Quiet (s : State) : Prop where
  valid : s.params.Valid
  booted : s.booted = true
  gie : s.gie = true
  eie : s.eie = true
  isr : s.isr = .none
  tmr : s.tmr = .tickCfg
  tpend : s.tpend = false
  elatch : s.elatch = ⟨false, false⟩

/-- `n` steps of the machine, stopping at the first that is no next state. -/
def runSteps (n : Nat) (s : State) : Host.Outcome State Fault Refusal := Sys2Proof.core.run n s

/-- A good state: not the fail-stop HALT, which "is never a good final state" (R99). -/
def Good (s : State) : Prop := s.fg ≠ .halt

/-- The states that the agents' steps reach from reset under valid parameters, in any interleaving (R6, R35). -/
inductive Reachable : State → Prop where
  | reset (p : Params) (h : p.Valid) : Reachable (State.resetWith p)
  | step {s t : State} (i : Instr) (hs : Reachable s) (hi : i.mnemonic ∈ Mnemonic.steps)
      (h : exec i s = .next t) : Reachable t

/-- An infinite run: `ι n` is the agent's step that takes `σ n` to `σ (n + 1)` (R109: "A run never ends"). -/
structure Run (σ : Nat → State) (ι : Nat → Instr) : Prop where
  agent : ∀ n, (ι n).mnemonic ∈ Mnemonic.steps
  moves : ∀ n, exec (ι n) (σ n) = .next (σ (n + 1))

/-- Weak fairness of one step: if it stays enabled, it is taken. -/
def FairTo (σ : Nat → State) (ι : Nat → Instr) (m : Mnemonic) : Prop :=
  ∀ n, (∀ k, n ≤ k → enabled (σ k) m = true) → ∃ k, n ≤ k ∧ (ι k).mnemonic = m

/-- The fairness R109 assumes: of ACT_EXIT, of the enabled handlers, of the foreground; none of the environment. -/
def Fair (σ : Nat → State) (ι : Nat → Instr) : Prop :=
  ∀ m ∈ Mnemonic.steps, m.isEnv = false → FairTo σ ι m

end Sys2Proof.Machine
end

