-- ==== Sys2Proof/Certificates/Slice0/Obligations.lean ====
section
/-! DEFINITION. The statements for the provers, from the numbered rules of spec/. In every one the state is any state
that meets the hypotheses written, so the parameters (`s.params`), the script and the free choice counter are any.
`IDX_MAX = 32` is R5's constraint, taken as a hypothesis where a statement says 32. -/

open Sys2Proof Sys2Proof.Machine

/-! ### Words -/

/-- Words written out from R40, R41, R43, R44, R46 and R48 decode to the steps they stand for. -/
def Obligations.SelectorWordsDecode : Prop :=
  decode (Params.defaults true) (.ev 0b01) = .instr .evRise ∧
  decode (Params.defaults true) (.ev 0b00) = .reject .noEvent ∧
  decode (Params.defaults true) (.tk 0b1) = .instr .isrTick ∧
  decode (Params.defaults true) (.el 0b10) = .instr (.isrEdgeBegin true false) ∧
  decode (Params.defaults true) (.arm 0b01) = .instr .edgeFall ∧
  decode (Params.defaults true) (.fs 0b00010) = .instr .fallBit1 ∧
  decode (Params.defaults true) (.ip 0b1) = .instr .isrEdgeEnd ∧
  decode (Params.defaults false) (.fg 0b0000) = .instr .bootHalt ∧
  decode (Params.defaults true) (.cw 0x20DF807F) = .instr .cmdPosB ∧
  decode (Params.defaults true) (.fg 0b1011) = .instr (.actEnter .c) ∧
  decode (Params.defaults true) (.fg 0b1100) = .reject .reservedPosition

/-- Decode and encode agree, for every well-formed instruction and all valid parameters. -/
def Obligations.DecodeOfEncodeIsTheInstruction : Prop :=
  ∀ (p : Params) (i : Instr), p.Valid → i.wellFormed p = true → decode p (encode p i) = .instr i

/-- What the decoder reads is well formed, and, but for the don't-care bits of `FS`, its word is the one read. -/
def Obligations.DecodedWordIsTheEncoding : Prop :=
  ∀ (p : Params) (w : Selector) (i : Instr), p.Valid → decode p w = .instr i →
    i.wellFormed p = true ∧ ((∀ v, w ≠ .fs v) → encode p i = w)

/-- The interval classes are half-open and cover every interval once (R42); the default thresholds are the source's
bounds 0.8, 2.0 and 6.0 ms in ticks. -/
def Obligations.IntervalClassesAreHalfOpen : Prop :=
  (∀ (p : Params) (d : Nat), p.Valid →
    (classOf p d = 0b00 ↔ d < p.t1) ∧ (classOf p d = 0b01 ↔ p.t1 ≤ d ∧ d < p.tHdr) ∧
    (classOf p d = 0b10 ↔ p.tHdr ≤ d ∧ d < p.tGap) ∧ (classOf p d = 0b11 ↔ p.tGap ≤ d)) ∧
  ∀ c, (Params.defaults c).t1 = ticksOfUs (Params.defaults c) 800 ∧
    (Params.defaults c).tHdr = ticksOfUs (Params.defaults c) 2000 ∧
    (Params.defaults c).tGap = ticksOfUs (Params.defaults c) 6000

/-- The falling-edge selector chooses by `done`, then `idx = 32`, then the interval class, then `acc = 0 ∧ idx = 0`
(R43, R89). The row for `idx = 32` is the spec's decision D12. -/
def Obligations.FallingEdgeSelectorOrder : Prop :=
  ∀ s : State, s.params.idxMax = 32 →
    selectFall (readFs s) =
      if s.done = true then .idle
      else if s.idx.val = 32 then .full
      else if s.tick < s.params.t1 then .bit0
      else if s.tick < s.params.tHdr then .bit1
      else if s.tick < s.params.tGap then (if s.acc = 0 ∧ s.idx.val = 0 then .hdrOk else .hdrErr)
      else .gap

/-- The command table compares whole words: each arm is chosen by its code alone, and a word with a bit at or above
bit 32 matches none (R44). -/
def Obligations.CommandWordMatchesWholeCodes : Prop :=
  ∀ (p : Params) (v : CwWord), p.Valid →
    (selectCmd p v = .posA ↔ v = p.codeA) ∧ (selectCmd p v = .posB ↔ v = p.codeB) ∧
    (selectCmd p v = .posC ↔ v = p.codeC) ∧ (selectCmd p v = .toggle ↔ v = p.codeT) ∧
    (selectCmd p v = .other ↔ v ∉ [p.codeA, p.codeB, p.codeC, p.codeT]) ∧
    (2 ^ 32 ≤ v → selectCmd p v = .other)

/-! ### Steps and the schedule -/

/-- A step runs the instruction decoded from the word its line's format has in the state, once the line is consumed; a
script line is the head of the script, and with an empty script the free choice is counted. -/
def Obligations.StepRunsTheDecodedInstruction : Prop :=
  (∀ (s : State) (i : Instr), admitted s (nextLine s) = true →
    decode s.params (heldWord s (nextLine s)) = .instr i → i.mnemonic = nextLine s → step s = exec i (afterPick s)) ∧
  (∀ (s : State) (m : Mnemonic) (rest : List Mnemonic), s.script = m :: rest →
    nextLine s = m ∧ afterPick s = { s with script := rest }) ∧
  ∀ s : State, s.script = [] → afterPick s = { s with turn := s.turn + 1 } ∧ nextLine s ∈ Mnemonic.steps

/-- Left to free choice the block always moves, in every state, whatever the choice: some agent's step is enabled and
is taken (R6: the environment "may take one at any time"). -/
def Obligations.FreeRunAlwaysMoves : Prop :=
  ∀ s : State, s.script = [] → ∃ t, step s = .next t

/-- A script line is taken exactly where its step is enabled and `IRQ_ORDER` admits it: "A step whose enabling
condition is false cannot be taken" (R10, R49). -/
def Obligations.ScriptLineTakenExactlyWhenEnabled : Prop :=
  ∀ (s : State) (m : Mnemonic) (rest : List Mnemonic), StateInv s → s.script = m :: rest →
    ((∃ t, step s = .next t) ↔ enabled s m = true ∧ admitted s m = true)

/-! ### The environment and the Time Base -/

/-- EV_RISE and EV_FALL set their latch bit in every state and change nothing else (R53, R54; D7). -/
def Obligations.EdgeEventsSetTheLatch : Prop :=
  ∀ s : State, exec .evRise s = .next { s with elatch := ⟨true, s.elatch.f⟩ } ∧
    exec .evFall s = .next { s with elatch := ⟨s.elatch.r, true⟩ }

/-- EV_TICK sets `tpend` in TickMode; in PwmMode, before BOOT_OK, and so at HALT too, it has no effect (R50, D24; that
HALT counts as before BOOT_OK is the model's reading, log 8). -/
def Obligations.PeriodEndSetsPending : Prop :=
  ∀ s : State,
    (s.fg ≠ .boot → s.fg ≠ .halt → s.timer.mode = .tick → exec .evTick s = .next { s with tpend := true }) ∧
    (s.timer.mode = .pwm ∨ s.fg = .boot ∨ s.fg = .halt → exec .evTick s = .next s)

/-- ISR_TICK counts one tick modulo `2^TICK_W`, clears `tpend` and leaves `isr = None` (R51). -/
def Obligations.TickHandlerCountsModulo : Prop :=
  ∀ s : State, s.gie = true → s.isr = .none → s.timer.tie = true → s.tpend = true →
    exec .isrTick s = .next { s with tick := (s.tick + 1) % 2 ^ s.params.tickW, tpend := false, isr := .none }

/-- A period that ends while a tick is pending is lost: two EV_TICK in a row leave what one leaves (R50, R102; D9). -/
def Obligations.PendingTicksMerge : Prop :=
  ∀ s t : State, exec .evTick s = .next t → exec .evTick t = .next t

/-- `n` periods, each served, count `n` ticks modulo `2^TICK_W` and change nothing else (R7, R51, R103). -/
def Obligations.ServedPeriodsCountModulo : Prop :=
  ∀ (n : Nat) (s : State) (rest : List Mnemonic), Quiet s → s.tick < 2 ^ s.params.tickW →
    s.script = Script.tick n ++ rest →
    runSteps (2 * n) s = .next { s with tick := (s.tick + n) % 2 ^ s.params.tickW, script := rest }

/-! ### The Protocol Decoder -/

/-- ISR_EDGE_BEGIN reads both latch bits at once and takes exactly the arm they select, in its own step; the latch is
not cleared and the foreground keeps its position (R55, R86; D8). -/
def Obligations.EdgeEntryTakesTheLatchedArm : Prop :=
  ∀ (s : State) (r f : Bool), s.gie = true → s.isr = .none → s.eie = true → s.elatch = ⟨r, f⟩ → (r || f) = true →
    exec (.isrEdgeBegin r f) s =
      exec (if r = true then (if f = true then .edgeDouble else .edgeRise) else .edgeFall) s ∧
    ∃ t, exec (.isrEdgeBegin r f) s = .next t ∧ t.isr = .edgeSettle ∧ t.elatch = s.elatch ∧ t.fg = s.fg

/-- EDGE_DOUBLE toggles the indicator `FAULT_TOGGLES` times, records diag 1 and touches no decode state (R56). -/
def Obligations.DoubleEdgeBlinksAndKeepsDecodeState : Prop :=
  ∀ s : State, s.gie = true → s.isr = .none → s.eie = true → s.elatch = ⟨true, true⟩ →
    exec .edgeDouble s = .next { s with
      isr := .edgeSettle
      ind := s.ind ^^ (s.params.faultToggles % 2 == 1)
      obs := s.obs ++ blinks s.ind s.params.faultToggles
      dtr := s.dtr ++ [.doubleEdge] }

/-- EDGE_RISE clears `done` and resets `tick`, whatever the Decoder's state (R57). -/
def Obligations.RisingEdgeStartsAnInterval : Prop :=
  ∀ s : State, s.gie = true → s.isr = .none → s.eie = true → s.elatch = ⟨true, false⟩ →
    exec .edgeRise s = .next { s with isr := .edgeSettle, done := false, tick := 0 }

/-- EDGE_FALL runs the first matching row of the falling-edge selector, and always completes (R58). The row for
`idx = 32` is the spec's decision D12 (log 20). -/
def Obligations.FallingEdgeRunsTheFirstRow : Prop :=
  ∀ s : State, s.params.idxMax = 32 → s.gie = true → s.isr = .none → s.eie = true → s.elatch = ⟨false, true⟩ →
    exec .edgeFall s = exec
      (if s.done = true then .fallIdle
       else if s.idx.val = 32 then .fallFull
       else if s.tick < s.params.t1 then .fallBit0
       else if s.tick < s.params.tHdr then .fallBit1
       else if s.tick < s.params.tGap then (if s.acc = 0 ∧ s.idx.val = 0 then .fallHdrOk else .fallHdrErr)
       else .fallGap) s ∧
    ∃ t, exec .edgeFall s = .next t ∧ t.tick = s.tick ∧ t.done = s.done

/-- A falling edge while idle is ignored (R59). -/
def Obligations.IdleFallIsIgnored : Prop :=
  ∀ s : State, s.gie = true → s.isr = .none → s.eie = true → s.elatch = ⟨false, true⟩ → s.done = true →
    exec .fallIdle s = .next { s with isr := .edgeSettle }

/-- A falling edge while a frame is complete is ignored (R60; the spec's decision D12). -/
def Obligations.FullFallIsIgnored : Prop :=
  ∀ s : State, s.params.idxMax = 32 → s.gie = true → s.isr = .none → s.eie = true → s.elatch = ⟨false, true⟩ →
    s.done = false → s.idx.val = 32 → exec .fallFull s = .next { s with isr := .edgeSettle }

/-- An interval below `T1` appends a 0 bit (R61). -/
def Obligations.ShortIntervalAppendsZero : Prop :=
  ∀ s : State, s.params.idxMax = 32 → s.gie = true → s.isr = .none → s.eie = true → s.elatch = ⟨false, true⟩ →
    s.done = false → s.idx.val < 32 → s.tick < s.params.t1 →
    ∃ k : Fin 33, k.val = s.idx.val + 1 ∧
      exec .fallBit0 s = .next { s with isr := .edgeSettle, acc := (s.acc <<< 1) % 2 ^ s.params.accW, idx := k }

/-- An interval of at least `T1` and below `THDR` appends a 1 bit (R62). -/
def Obligations.LongIntervalAppendsOne : Prop :=
  ∀ s : State, s.params.idxMax = 32 → s.gie = true → s.isr = .none → s.eie = true → s.elatch = ⟨false, true⟩ →
    s.done = false → s.idx.val < 32 → s.params.t1 ≤ s.tick → s.tick < s.params.tHdr →
    ∃ k : Fin 33, k.val = s.idx.val + 1 ∧
      exec .fallBit1 s =
        .next { s with isr := .edgeSettle, acc := ((s.acc <<< 1) ||| 1) % 2 ^ s.params.accW, idx := k }

/-- A header interval at the start of a frame is accepted without any effect (R63). -/
def Obligations.HeaderAtFrameStartIsAccepted : Prop :=
  ∀ s : State, s.params.Valid → s.gie = true → s.isr = .none → s.eie = true → s.elatch = ⟨false, true⟩ →
    s.done = false → s.params.tHdr ≤ s.tick → s.tick < s.params.tGap → s.acc = 0 → s.idx = 0 →
    exec .fallHdrOk s = .next { s with isr := .edgeSettle }

/-- A header interval in mid-frame toggles the indicator `HDR_ERR_TOGGLES` times and records diag 2; it clears the frame
under `HDR_ERR_RESET` only (R64; D13, D14). -/
def Obligations.HeaderInMidFrameIsFlagged : Prop :=
  ∀ s : State, s.params.Valid → s.gie = true → s.isr = .none → s.eie = true → s.elatch = ⟨false, true⟩ →
    s.done = false → s.idx.val < 32 → s.params.tHdr ≤ s.tick → s.tick < s.params.tGap → (s.acc ≠ 0 ∨ s.idx ≠ 0) →
    exec .fallHdrErr s = .next { s with
      isr := .edgeSettle
      ind := s.ind ^^ (s.params.hdrErrToggles % 2 == 1)
      obs := s.obs ++ blinks s.ind s.params.hdrErrToggles
      dtr := s.dtr ++ [.hdrMidframe]
      acc := if s.params.hdrErrReset = true then 0 else s.acc
      idx := if s.params.hdrErrReset = true then 0 else s.idx }

/-- A gap interval abandons the frame with diag 3 under `abort` and does nothing under `ignore`; `done` and `tick` stay
in both (R65; D15). -/
def Obligations.GapAbandonsTheFrame : Prop :=
  ∀ s : State, s.params.Valid → s.gie = true → s.isr = .none → s.eie = true → s.elatch = ⟨false, true⟩ →
    s.done = false → s.idx.val < 32 → s.params.tGap ≤ s.tick →
    (s.params.gapPolicy = .abort →
      exec .fallGap s = .next { s with isr := .edgeSettle, acc := 0, idx := 0, dtr := s.dtr ++ [.gapAbort] }) ∧
    (s.params.gapPolicy = .ignore → exec .fallGap s = .next { s with isr := .edgeSettle })

/-- The arm for an empty latch changes only `isr`, and ISR_EDGE_BEGIN never takes it (R66, R47 (b); D11). -/
def Obligations.EmptyLatchArmChangesOnlyIsr : Prop :=
  ∀ s : State, s.elatch = ⟨false, false⟩ →
    (s.gie = true → s.isr = .none → s.eie = true → exec .edgeNone s = .next { s with isr := .edgeSettle }) ∧
    ∀ (r f : Bool) (t : State), exec (.isrEdgeBegin r f) s ≠ .next t

/-- ISR_EDGE_END clears both latch bits and returns (R67; D8). -/
def Obligations.EdgeHandlerReturnClearsTheLatch : Prop :=
  ∀ s : State, s.isr = .edgeSettle →
    exec .isrEdgeEnd s = .next { s with elatch := ⟨false, false⟩, isr := .none }

/-- An edge that arrives in the settle window is lost: the handler's return leaves what it leaves without it (R67,
R101). -/
def Obligations.SettleWindowEdgesAreLost : Prop :=
  ∀ s t : State, s.isr = .edgeSettle → (exec .evRise s = .next t ∨ exec .evFall s = .next t) →
    exec .isrEdgeEnd t = exec .isrEdgeEnd s

/-! ### The Command Dispatcher -/

/-- DISP_CLEAR clears `acc`, and under `LOOPTOP_CLEAR` the latch; `idx` and `done` are not touched (R69; D16). -/
def Obligations.LoopTopClearsTheAccumulator : Prop :=
  ∀ s : State, s.fg = .l1 → s.isr = .none →
    exec .dispClear s = .next { s with
      acc := 0
      elatch := if s.params.looptopClear = true then ⟨false, false⟩ else s.elatch
      fg := .l2 }

/-- DISP_WAIT leaves L2 exactly when `idx = 32` (R70). That the step is enabled and spins while `idx` is not 32 is the
model's choice (log 18): R70 and R95 also allow no step there. -/
def Obligations.WaitEndsAtThirtyTwoBits : Prop :=
  ∀ s : State, s.params.idxMax = 32 → s.fg = .l2 → s.isr = .none →
    (s.idx.val = 32 → exec .dispWait s = .next { s with fg := .l3 }) ∧
    (s.idx.val ≠ 32 → exec .dispWait s = .next s)

/-- DISP_REARM resets `idx`, sets `done` and keeps `acc` (R71). -/
def Obligations.RearmKeepsTheAccumulator : Prop :=
  ∀ s : State, s.fg = .l3 → s.isr = .none → exec .dispRearm s = .next { s with idx := 0, done := true, fg := .l4 }

/-- DISP_DISPATCH reads `acc` now and takes the arm of its code, and always completes (R72; D17). -/
def Obligations.DispatchTakesTheArmOfTheCode : Prop :=
  ∀ s : State, s.fg = .l4 → s.isr = .none →
    exec .dispDispatch s = exec
      (if s.acc = s.params.codeA then .cmdPosA
       else if s.acc = s.params.codeB then .cmdPosB
       else if s.acc = s.params.codeC then .cmdPosC
       else if s.acc = s.params.codeT then .cmdToggle
       else .cmdOther s.acc) s ∧
    ∃ t, exec .dispDispatch s = .next t ∧ t.acc = s.acc

/-- The three position commands only send the foreground to the Actuator Driver (R73, R74, R75). -/
def Obligations.PositionCommandsInvokeTheDriver : Prop :=
  ∀ s : State, s.params.Valid → s.fg = .l4 → s.isr = .none →
    (s.acc = s.params.codeA → exec .cmdPosA s = .next { s with fg := .act .a }) ∧
    (s.acc = s.params.codeB → exec .cmdPosB s = .next { s with fg := .act .b }) ∧
    (s.acc = s.params.codeC → exec .cmdPosC s = .next { s with fg := .act .c })

/-- CMD_TOGGLE inverts the indicator once; the actuator and the timer are not touched (R76). -/
def Obligations.ToggleCommandInvertsTheIndicator : Prop :=
  ∀ s : State, s.params.Valid → s.fg = .l4 → s.isr = .none → s.acc = s.params.codeT →
    exec .cmdToggle s = .next { s with ind := !s.ind, obs := s.obs ++ [.ind !s.ind], fg := .l1 }

/-- CMD_OTHER resets `idx` again, records diag 4 and goes back to L1; neither pin is written (R77). -/
def Obligations.UnrecognizedCommandIsSilent : Prop :=
  ∀ s : State, s.fg = .l4 → s.isr = .none → s.acc ∉ [s.params.codeA, s.params.codeB, s.params.codeC, s.params.codeT] →
    exec (.cmdOther s.acc) s = .next { s with idx := 0, dtr := s.dtr ++ [.cmdUnrecognized], fg := .l1 }

/-- The foreground moves only along the loop of R68, and its handlers and the environment never move it (R68, R86). -/
def Obligations.ForegroundFollowsTheLoop : Prop :=
  ∀ (i : Instr) (s t : State), exec i s = .next t → t.fg ≠ s.fg →
    i.mnemonic.isFg = true ∧
    ((s.fg = .boot ∧ (t.fg = .l1 ∨ t.fg = .halt)) ∨ (s.fg = .l1 ∧ t.fg = .l2) ∨
     (s.fg = .l2 ∧ t.fg = .l3 ∧ s.idx.val = s.params.idxMax) ∨ (s.fg = .l3 ∧ t.fg = .l4) ∨
     (s.fg = .l4 ∧ (t.fg = .l1 ∨ ∃ p, t.fg = .act p)) ∨
     (∃ p, s.fg = .act p ∧ t.fg = .dwell p) ∨ (∃ p, s.fg = .dwell p ∧ t.fg = .l1))

/-! ### The Actuator Driver -/

/-- ACT_ENTER switches the timer to `PWMCFG(width(p))`, drops the pending tick, masks the edge interrupt and starts the
waveform; `tick`, `acc`, `idx` and `done` stay (R79, R45; D19, D20). -/
def Obligations.MotionStartsThePulse : Prop :=
  ∀ (s : State) (p : Position), s.fg = .act p → s.isr = .none →
    exec (.actEnter p) s = .next { s with
      tmr := .pwmCfg p
      tpend := false
      eie := false
      act := .pwm (widthOf s.params p)
      obs := s.obs ++ [.act (.pwm (widthOf s.params p))]
      fg := .dwell p } ∧
    (TimerCfg.pwmCfg p).record s.params = ⟨.pwm, s.params.pwmPeriodUs, widthOf s.params p, false⟩

/-- ACT_EXIT releases the pin, restores `TICKCFG` bit for bit, clears the latch and unmasks the edge interrupt (R81;
D19, D21). -/
def Obligations.MotionEndsWithTheTimeBaseRestored : Prop :=
  ∀ (s : State) (p : Position), s.fg = .dwell p → s.isr = .none →
    exec (.actExit p) s = .next { s with
      act := .low
      obs := s.obs ++ [.act .low]
      tmr := .tickCfg
      elatch := ⟨false, false⟩
      eie := true
      fg := .l1 } ∧
    TimerCfg.tickCfg.record s.params = ⟨.tick, s.params.tickUs, 0, true⟩

/-- Only BOOT_OK, ACT_ENTER and ACT_EXIT change the timer: ACT_ENTER from `TICKCFG` to a `PWMCFG`, ACT_EXIT from a
`PWMCFG` to `TICKCFG`, each in one step (R78). -/
def Obligations.OnlyTheDriverSwitchesTheTimer : Prop :=
  ∀ (i : Instr) (s t : State), StateInv s → exec i s = .next t → t.tmr ≠ s.tmr →
    (i = .bootOk ∧ t.tmr = .tickCfg) ∨
    (∃ p, i = .actEnter p ∧ s.tmr = .tickCfg ∧ t.tmr = .pwmCfg p) ∨
    (∃ p, i = .actExit p ∧ s.tmr = .pwmCfg p ∧ t.tmr = .tickCfg)

/-- During a dwell only the environment moves and ACT_EXIT: no tick is counted, no edge decoded, no pin driven, and the
edges latched meanwhile are cleared at the exit (R80, R82; D19). -/
def Obligations.DwellSuspendsTheDecoder : Prop :=
  ∀ (i : Instr) (s t : State) (p : Position), StateInv s → s.fg = .dwell p → exec i s = .next t →
    t.tick = s.tick ∧ t.acc = s.acc ∧ t.idx = s.idx ∧ t.done = s.done ∧
    ((i = .actExit p ∧ t.fg = .l1 ∧ t.elatch = ⟨false, false⟩ ∧ t.obs = s.obs ++ [.act .low]) ∨
     (i.mnemonic.isEnv = true ∧ t.fg = s.fg ∧ t.act = s.act ∧ t.obs = s.obs ∧ t.eie = false ∧ t.tmr = s.tmr ∧
      t.tpend = false))

/-- A dispatched position code gives one motion: the pulse of its width, then low, and no indicator event (R109's
example; R72 to R75, R79, R81). -/
def Obligations.PositionCodeGivesOneMotion : Prop :=
  ∀ (s : State) (rest : List Mnemonic) (q : Position), s.params.Valid → s.fg = .l4 → s.isr = .none →
    s.acc = (match q with | .a => s.params.codeA | .b => s.params.codeB | .c => s.params.codeC) →
    s.script = [.dispDispatch, .actEnter, .actExit] ++ rest →
    runSteps 3 s = .next { s with
      obs := s.obs ++ [.act (.pwm (widthOf s.params q)), .act .low]
      act := .low
      tmr := .tickCfg
      tpend := false
      eie := true
      elatch := ⟨false, false⟩
      fg := .l1
      script := rest }

/-! ### Boot and reset -/

/-- Every element but `tmr` has the reset value of R27's table, for all parameters (R27, R97; D23), with `IND_RESET` on
the indicator. -/
def Obligations.ResetHoldsTheTable : Prop :=
  ∀ p : Params, ∃ cfg : TimerCfg, State.resetWith p =
    { tick := 0, acc := 0, idx := 0, done := true, elatch := ⟨false, false⟩, tpend := false, tmr := cfg,
      eie := false, gie := false, isr := .none, act := .low, ind := p.indReset, fg := .boot, obs := [], dtr := [],
      params := p, script := [], turn := (State.resetWith p).turn }

/-- BOOT_OK configures the timer, clears the latches, sets the enables and goes to L1; the rest keeps its value (R98,
R100; D24). That it waits for `isr = None` is the model's reading of R87 (log 9). -/
def Obligations.BootEnablesTheBlock : Prop :=
  ∀ s : State, s.fg = .boot → s.params.calibValid = true → s.isr = .none →
    exec .bootOk s = .next { s with
      tmr := .tickCfg
      tpend := false
      elatch := ⟨false, false⟩
      eie := true
      gie := true
      fg := .l1 } ∧
    TimerCfg.tickCfg.record s.params = ⟨.tick, s.params.tickUs, 0, true⟩

/-- Corrupt calibration data halts the block, with diag 5 (R99). -/
def Obligations.CorruptCalibrationHalts : Prop :=
  ∀ s : State, s.fg = .boot → s.params.calibValid = false → s.isr = .none →
    exec .bootHalt s = .next { s with dtr := s.dtr ++ [.bootCalibHalt], fg := .halt }

/-- At HALT, with `gie = 0` and no handler in progress, only the environment moves, and HALT and `gie` stay; a script line
that asks for a foreground step stops with the fault `halted` (R99, R47 (d)). -/
def Obligations.HaltIsForEver : Prop :=
  ∀ s : State, s.fg = .halt → s.gie = false → s.isr = .none →
    (∀ (i : Instr) (t : State), exec i s = .next t →
      i.mnemonic.isEnv = true ∧ t.fg = .halt ∧ t.gie = false ∧ t.isr = .none) ∧
    ∀ (m : Mnemonic) (rest : List Mnemonic), s.script = m :: rest → m ∈ Mnemonic.steps → m.isFg = true →
      step s = .fault .halted

/-! ### Interrupts and contexts -/

/-- While a handler is in progress, the enabled steps are ISR_EDGE_END and the environment's, and those are; ISR_TICK,
one atomic step, leaves `isr = None` (R87). -/
def Obligations.HandlersDoNotNest : Prop :=
  (∀ s : State, s.isr ≠ .none →
    (∀ (i : Instr) (t : State), exec i s = .next t → i = .isrEdgeEnd ∨ i.mnemonic.isEnv = true) ∧
    ∀ i : Instr, i = .isrEdgeEnd ∨ i.mnemonic.isEnv = true → ∃ t, exec i s = .next t) ∧
  ∀ s t : State, exec .isrTick s = .next t → t.isr = .none

/-- Where a tick is pending and a rising edge is latched, `tick_first` and `edge_first` each admit one handler only and
`any` both; the tick is lost to the old interval in one order and counted in the new one in the other (R88; D10). -/
def Obligations.HandlerOrderDecidesTheTick : Prop :=
  ∀ s : State, s.gie = true → s.isr = .none → s.eie = true → s.timer.tie = true → s.tpend = true →
    s.elatch = ⟨true, false⟩ → 1 < 2 ^ s.params.tickW →
    (admitted s .isrTick = true ↔ s.params.irqOrder ≠ .edgeFirst) ∧
    (admitted s .isrEdgeBegin = true ↔ s.params.irqOrder ≠ .tickFirst) ∧
    (∃ t u, exec .isrTick s = .next t ∧ exec (.isrEdgeBegin true false) t = .next u ∧ u.tick = 0 ∧ u.tpend = false) ∧
    (∃ t u v, exec (.isrEdgeBegin true false) s = .next t ∧ exec .isrEdgeEnd t = .next u ∧
      exec .isrTick u = .next v ∧ v.tick = 1 ∧ v.tpend = false)

/-! ### Frames: what each step leaves unchanged -/

/-- The handler steps: `i` changes only the elements its rule names, besides `isr`. -/
def Obligations.HandlerStepsFrame : Prop :=
  ∀ s t : State,
    (exec .isrTick s = .next t → t = { s with tick := t.tick, tpend := t.tpend }) ∧
    (exec .isrEdgeEnd s = .next t → t = { s with elatch := t.elatch, isr := t.isr }) ∧
    (∀ i, i = .edgeNone ∨ i = .fallIdle ∨ i = .fallFull ∨ i = .fallHdrOk →
      exec i s = .next t → t = { s with isr := t.isr }) ∧
    (exec .edgeRise s = .next t → t = { s with isr := t.isr, done := t.done, tick := t.tick }) ∧
    (∀ i, i = .fallBit0 ∨ i = .fallBit1 → exec i s = .next t → t = { s with isr := t.isr, acc := t.acc, idx := t.idx }) ∧
    (exec .edgeDouble s = .next t → t = { s with isr := t.isr, ind := t.ind, obs := t.obs, dtr := t.dtr }) ∧
    (exec .fallHdrErr s = .next t →
      t = { s with isr := t.isr, ind := t.ind, obs := t.obs, dtr := t.dtr, acc := t.acc, idx := t.idx }) ∧
    (exec .fallGap s = .next t → t = { s with isr := t.isr, dtr := t.dtr, acc := t.acc, idx := t.idx })

/-- ISR_EDGE_BEGIN and EDGE_FALL change only what one of their arms changes: never the latch, a mask, the timer, the
actuator or the foreground's position. -/
def Obligations.EdgeEntryFrame : Prop :=
  ∀ (i : Instr) (s t : State), (i = .edgeFall ∨ ∃ r f, i = .isrEdgeBegin r f) → exec i s = .next t →
    t = { s with isr := t.isr, tick := t.tick, done := t.done, acc := t.acc, idx := t.idx, ind := t.ind, obs := t.obs,
                 dtr := t.dtr } ∧
    (i = .edgeFall → t.tick = s.tick ∧ t.done = s.done)

/-- The foreground steps: `i` changes only the elements its rule names, besides `fg`. -/
def Obligations.ForegroundStepsFrame : Prop :=
  ∀ s t : State,
    (exec .dispClear s = .next t → t = { s with fg := t.fg, acc := t.acc, elatch := t.elatch }) ∧
    (exec .dispWait s = .next t → t = { s with fg := t.fg }) ∧
    (exec .dispRearm s = .next t → t = { s with fg := t.fg, idx := t.idx, done := t.done }) ∧
    (∀ i, i = .cmdPosA ∨ i = .cmdPosB ∨ i = .cmdPosC → exec i s = .next t → t = { s with fg := t.fg }) ∧
    (exec .cmdToggle s = .next t → t = { s with fg := t.fg, ind := t.ind, obs := t.obs }) ∧
    (∀ v, exec (.cmdOther v) s = .next t → t = { s with fg := t.fg, idx := t.idx, dtr := t.dtr }) ∧
    (exec .dispDispatch s = .next t →
      t = { s with fg := t.fg, ind := t.ind, obs := t.obs, idx := t.idx, dtr := t.dtr }) ∧
    (∀ p, exec (.actEnter p) s = .next t →
      t = { s with fg := t.fg, tmr := t.tmr, tpend := t.tpend, eie := t.eie, act := t.act, obs := t.obs }) ∧
    (∀ p, exec (.actExit p) s = .next t →
      t = { s with fg := t.fg, tmr := t.tmr, elatch := t.elatch, eie := t.eie, act := t.act, obs := t.obs }) ∧
    (exec .bootOk s = .next t →
      t = { s with fg := t.fg, tmr := t.tmr, tpend := t.tpend, elatch := t.elatch, eie := t.eie, gie := t.gie }) ∧
    (exec .bootHalt s = .next t → t = { s with fg := t.fg, dtr := t.dtr })

/-- The writers of R11's table: over the agents' steps, an element changes only in a step that the table lists for it (an
arm listed there is taken inside ISR_EDGE_BEGIN or DISP_DISPATCH). `gie`, once set, stays set (R21), and the parameters
never change (R5). -/
def Obligations.OnlyTheListedStepsWrite : Prop :=
  ∀ (i : Instr) (s t : State), i.mnemonic ∈ Mnemonic.steps → exec i s = .next t →
    (t.tick ≠ s.tick → i = .isrTick ∨ i = .isrEdgeBegin true false) ∧
    (t.acc ≠ s.acc → i = .isrEdgeBegin false true ∨ i = .dispClear) ∧
    (t.idx ≠ s.idx → i = .isrEdgeBegin false true ∨ i = .dispRearm ∨ i = .dispDispatch) ∧
    (t.done ≠ s.done → i = .isrEdgeBegin true false ∨ i = .dispRearm) ∧
    (t.elatch ≠ s.elatch → i = .evRise ∨ i = .evFall ∨ i = .isrEdgeEnd ∨ i = .bootOk ∨
      (i = .dispClear ∧ s.params.looptopClear = true) ∨ ∃ p, i = .actExit p) ∧
    (t.tpend ≠ s.tpend → i = .evTick ∨ i = .isrTick ∨ i = .bootOk ∨ ∃ p, i = .actEnter p) ∧
    (t.eie ≠ s.eie → i = .bootOk ∨ ∃ p, i = .actEnter p ∨ i = .actExit p) ∧
    (t.gie ≠ s.gie → i = .bootOk ∧ t.gie = true) ∧
    (t.isr ≠ s.isr → i = .isrEdgeEnd ∨ ∃ r f, i = .isrEdgeBegin r f) ∧
    (t.act ≠ s.act → ∃ p, i = .actEnter p ∨ i = .actExit p) ∧
    (t.ind ≠ s.ind → i = .isrEdgeBegin true true ∨ i = .isrEdgeBegin false true ∨ i = .dispDispatch) ∧
    (t.tmr ≠ s.tmr → i = .bootOk ∨ ∃ p, i = .actEnter p ∨ i = .actExit p) ∧
    (t.fg ≠ s.fg → i.mnemonic.isFg = true) ∧
    (t.obs ≠ s.obs → i = .isrEdgeBegin true true ∨ i = .isrEdgeBegin false true ∨ i = .dispDispatch ∨
      ∃ p, i = .actEnter p ∨ i = .actExit p) ∧
    (t.dtr ≠ s.dtr → i = .isrEdgeBegin true true ∨ i = .isrEdgeBegin false true ∨ i = .dispDispatch ∨ i = .bootHalt) ∧
    t.params = s.params

/-! ### Whole-machine rules -/

/-- The invariant holds at reset, for all valid parameters, and so for the defaults. -/
def Obligations.InvariantHoldsAtReset : Prop :=
  (∀ p : Params, p.Valid → StateInv (State.resetWith p)) ∧ StateInv State.reset

/-- Every step keeps the invariant, from every state that has it. -/
def Obligations.StepKeepsTheInvariant : Prop :=
  ∀ s t : State, StateInv s → step s = .next t → StateInv t

/-- The invariants of R28 hold in every reachable state, over all interleavings and all valid parameters (R28). -/
def Obligations.ReachableStatesMeetTheInvariants : Prop :=
  ∀ s : State, Reachable s → R28 s

/-- The Decoder's three states are mutually exclusive and cover every reachable state (R16). -/
def Obligations.DecoderStatesAreExclusive : Prop :=
  ∀ s : State,
    (s.idle = true ↔ s.done = true) ∧
    (s.params.idxMax = 32 → (s.inFrame = true ↔ s.done = false ∧ s.idx.val < 32) ∧
      (s.frameComplete = true ↔ s.idx.val = 32)) ∧
    (Reachable s →
      (s.idle = true ∧ s.inFrame = false ∧ s.frameComplete = false) ∨
      (s.idle = false ∧ s.inFrame = true ∧ s.frameComplete = false) ∨
      (s.idle = false ∧ s.inFrame = false ∧ s.frameComplete = true))

/-- The traces only grow, and no step reads them: what a step does, its stop included, is the same whatever they hold
(R26). -/
def Obligations.TracesAreNeverRead : Prop :=
  ∀ (s : State) (o : List PinEvent) (d : List Diag),
    (∀ t, step s = .next t → ∃ o' d', t.obs = s.obs ++ o' ∧ t.dtr = s.dtr ++ d' ∧
      step { s with obs := o, dtr := d } = .next { t with obs := o ++ o', dtr := d ++ d' }) ∧
    (∀ r, step s = .refused r → step { s with obs := o, dtr := d } = .refused r) ∧
    ∀ f, step s = .fault f → step { s with obs := o, dtr := d } = .fault f

/-- A NEC bit, played as the script of R49 from a quiet state inside a frame, shifts that bit into `acc` and counts it; the
measured interval is what `tick` then holds (R49, R61, R62, R67). -/
def Obligations.NecBitIsShiftedIn : Prop :=
  ∀ (s : State) (b : Bool) (rest : List Mnemonic), Quiet s → s.done = false → s.idx.val < 32 →
    s.params.t1 = 8 → s.params.tHdr = 20 → s.tick < 2 ^ s.params.tickW → s.script = Script.nbit b ++ rest →
    ∃ k : Fin 33, k.val = s.idx.val + 1 ∧
      runSteps (Script.nbit b).length s = .next { s with
        acc := ((s.acc <<< 1) ||| b.toNat) % 2 ^ s.params.accW
        idx := k
        tick := Script.spaceTicks b
        script := rest }

/-- A whole NEC frame for any 32-bit code, played from a quiet idle state, ends with `acc` equal to the code, most
significant bit first, and the frame complete; no pin moves and no fault is recorded (R30, R49, R57 to R63). The tick
counts are the macros', under the default thresholds. -/
def Obligations.NecFrameDecodesToItsCode : Prop :=
  ∀ (s : State) (v : Nat) (rest : List Mnemonic), Quiet s → s.done = true → s.idx = 0 → s.acc = 0 →
    s.params.t1 = 8 → s.params.tHdr = 20 → s.params.tGap = 60 → s.tick < 2 ^ s.params.tickW → v < 2 ^ 32 →
    s.script = Script.frame v ++ rest →
    runSteps (Script.frame v).length s = .next { s with
      acc := v
      idx := 32
      done := false
      tick := 0
      script := rest }

/-- In a fair run every dwell ends: the Time Base is restored and the foreground is back at L1 (R80, R81, R109 (a);
D21). -/
def Obligations.FairRunEndsEveryDwell : Prop :=
  ∀ (σ : Nat → State) (ι : Nat → Instr), StateInv (σ 0) → Run σ ι → Fair σ ι →
    ∀ (n : Nat) (p : Position), (σ n).fg = .dwell p →
      ∃ m, n < m ∧ (σ m).fg = .l1 ∧ (σ m).act = .low ∧ (σ m).tmr = .tickCfg ∧ (σ m).eie = true

/-- In a fair run every edge handler returns (R67, R90, R109 (b)). -/
def Obligations.FairRunReturnsFromTheHandler : Prop :=
  ∀ (σ : Nat → State) (ι : Nat → Instr), Run σ ι → Fair σ ι →
    ∀ n, (σ n).isr = .edgeSettle → ∃ m, n < m ∧ (σ m).isr = .none ∧ (σ m).elatch = ⟨false, false⟩
end

