-- ==== Sys2Proof/Laws/State.lean ====
section
/-! SUPPORT. One lemma per field per update of the state, so that no later proof unfolds a record update. -/

namespace Sys2Proof.Machine.State

variable (s : State)

@[simp] theorem goto_tick (pos : FgPos) : (s.goto pos).tick = s.tick := rfl
@[simp] theorem goto_acc (pos : FgPos) : (s.goto pos).acc = s.acc := rfl
@[simp] theorem goto_idx (pos : FgPos) : (s.goto pos).idx = s.idx := rfl
@[simp] theorem goto_done (pos : FgPos) : (s.goto pos).done = s.done := rfl
@[simp] theorem goto_elatch (pos : FgPos) : (s.goto pos).elatch = s.elatch := rfl
@[simp] theorem goto_tpend (pos : FgPos) : (s.goto pos).tpend = s.tpend := rfl
@[simp] theorem goto_tmr (pos : FgPos) : (s.goto pos).tmr = s.tmr := rfl
@[simp] theorem goto_eie (pos : FgPos) : (s.goto pos).eie = s.eie := rfl
@[simp] theorem goto_gie (pos : FgPos) : (s.goto pos).gie = s.gie := rfl
@[simp] theorem goto_isr (pos : FgPos) : (s.goto pos).isr = s.isr := rfl
@[simp] theorem goto_act (pos : FgPos) : (s.goto pos).act = s.act := rfl
@[simp] theorem goto_ind (pos : FgPos) : (s.goto pos).ind = s.ind := rfl
@[simp] theorem goto_fg (pos : FgPos) : (s.goto pos).fg = pos := rfl
@[simp] theorem goto_obs (pos : FgPos) : (s.goto pos).obs = s.obs := rfl
@[simp] theorem goto_dtr (pos : FgPos) : (s.goto pos).dtr = s.dtr := rfl
@[simp] theorem goto_params (pos : FgPos) : (s.goto pos).params = s.params := rfl
@[simp] theorem goto_script (pos : FgPos) : (s.goto pos).script = s.script := rfl
@[simp] theorem goto_turn (pos : FgPos) : (s.goto pos).turn = s.turn := rfl

@[simp] theorem diag_tick (d : Diag) : (s.diag d).tick = s.tick := rfl
@[simp] theorem diag_acc (d : Diag) : (s.diag d).acc = s.acc := rfl
@[simp] theorem diag_idx (d : Diag) : (s.diag d).idx = s.idx := rfl
@[simp] theorem diag_done (d : Diag) : (s.diag d).done = s.done := rfl
@[simp] theorem diag_elatch (d : Diag) : (s.diag d).elatch = s.elatch := rfl
@[simp] theorem diag_tpend (d : Diag) : (s.diag d).tpend = s.tpend := rfl
@[simp] theorem diag_tmr (d : Diag) : (s.diag d).tmr = s.tmr := rfl
@[simp] theorem diag_eie (d : Diag) : (s.diag d).eie = s.eie := rfl
@[simp] theorem diag_gie (d : Diag) : (s.diag d).gie = s.gie := rfl
@[simp] theorem diag_isr (d : Diag) : (s.diag d).isr = s.isr := rfl
@[simp] theorem diag_act (d : Diag) : (s.diag d).act = s.act := rfl
@[simp] theorem diag_ind (d : Diag) : (s.diag d).ind = s.ind := rfl
@[simp] theorem diag_fg (d : Diag) : (s.diag d).fg = s.fg := rfl
@[simp] theorem diag_obs (d : Diag) : (s.diag d).obs = s.obs := rfl
@[simp] theorem diag_dtr (d : Diag) : (s.diag d).dtr = s.dtr ++ [d] := rfl
@[simp] theorem diag_params (d : Diag) : (s.diag d).params = s.params := rfl
@[simp] theorem diag_script (d : Diag) : (s.diag d).script = s.script := rfl
@[simp] theorem diag_turn (d : Diag) : (s.diag d).turn = s.turn := rfl

@[simp] theorem toggle_tick : s.toggle.tick = s.tick := rfl
@[simp] theorem toggle_acc : s.toggle.acc = s.acc := rfl
@[simp] theorem toggle_idx : s.toggle.idx = s.idx := rfl
@[simp] theorem toggle_done : s.toggle.done = s.done := rfl
@[simp] theorem toggle_elatch : s.toggle.elatch = s.elatch := rfl
@[simp] theorem toggle_tpend : s.toggle.tpend = s.tpend := rfl
@[simp] theorem toggle_tmr : s.toggle.tmr = s.tmr := rfl
@[simp] theorem toggle_eie : s.toggle.eie = s.eie := rfl
@[simp] theorem toggle_gie : s.toggle.gie = s.gie := rfl
@[simp] theorem toggle_isr : s.toggle.isr = s.isr := rfl
@[simp] theorem toggle_act : s.toggle.act = s.act := rfl
@[simp] theorem toggle_ind : s.toggle.ind = !s.ind := rfl
@[simp] theorem toggle_fg : s.toggle.fg = s.fg := rfl
@[simp] theorem toggle_obs : s.toggle.obs = s.obs ++ [.ind !s.ind] := rfl
@[simp] theorem toggle_dtr : s.toggle.dtr = s.dtr := rfl
@[simp] theorem toggle_params : s.toggle.params = s.params := rfl
@[simp] theorem toggle_script : s.toggle.script = s.script := rfl
@[simp] theorem toggle_turn : s.toggle.turn = s.turn := rfl

@[simp] theorem drive_tick (a : ActPin) : (s.drive a).tick = s.tick := rfl
@[simp] theorem drive_acc (a : ActPin) : (s.drive a).acc = s.acc := rfl
@[simp] theorem drive_idx (a : ActPin) : (s.drive a).idx = s.idx := rfl
@[simp] theorem drive_done (a : ActPin) : (s.drive a).done = s.done := rfl
@[simp] theorem drive_elatch (a : ActPin) : (s.drive a).elatch = s.elatch := rfl
@[simp] theorem drive_tpend (a : ActPin) : (s.drive a).tpend = s.tpend := rfl
@[simp] theorem drive_tmr (a : ActPin) : (s.drive a).tmr = s.tmr := rfl
@[simp] theorem drive_eie (a : ActPin) : (s.drive a).eie = s.eie := rfl
@[simp] theorem drive_gie (a : ActPin) : (s.drive a).gie = s.gie := rfl
@[simp] theorem drive_isr (a : ActPin) : (s.drive a).isr = s.isr := rfl
@[simp] theorem drive_act (a : ActPin) : (s.drive a).act = a := rfl
@[simp] theorem drive_ind (a : ActPin) : (s.drive a).ind = s.ind := rfl
@[simp] theorem drive_fg (a : ActPin) : (s.drive a).fg = s.fg := rfl
@[simp] theorem drive_obs (a : ActPin) : (s.drive a).obs = s.obs ++ [.act a] := rfl
@[simp] theorem drive_dtr (a : ActPin) : (s.drive a).dtr = s.dtr := rfl
@[simp] theorem drive_params (a : ActPin) : (s.drive a).params = s.params := rfl
@[simp] theorem drive_script (a : ActPin) : (s.drive a).script = s.script := rfl
@[simp] theorem drive_turn (a : ActPin) : (s.drive a).turn = s.turn := rfl

@[simp] theorem countTick_tick : s.countTick.tick = truncTo s.params.tickW (s.tick + 1) := rfl
@[simp] theorem countTick_acc : s.countTick.acc = s.acc := rfl
@[simp] theorem countTick_idx : s.countTick.idx = s.idx := rfl
@[simp] theorem countTick_done : s.countTick.done = s.done := rfl
@[simp] theorem countTick_elatch : s.countTick.elatch = s.elatch := rfl
@[simp] theorem countTick_tpend : s.countTick.tpend = s.tpend := rfl
@[simp] theorem countTick_tmr : s.countTick.tmr = s.tmr := rfl
@[simp] theorem countTick_eie : s.countTick.eie = s.eie := rfl
@[simp] theorem countTick_gie : s.countTick.gie = s.gie := rfl
@[simp] theorem countTick_isr : s.countTick.isr = s.isr := rfl
@[simp] theorem countTick_act : s.countTick.act = s.act := rfl
@[simp] theorem countTick_ind : s.countTick.ind = s.ind := rfl
@[simp] theorem countTick_fg : s.countTick.fg = s.fg := rfl
@[simp] theorem countTick_obs : s.countTick.obs = s.obs := rfl
@[simp] theorem countTick_dtr : s.countTick.dtr = s.dtr := rfl
@[simp] theorem countTick_params : s.countTick.params = s.params := rfl
@[simp] theorem countTick_script : s.countTick.script = s.script := rfl
@[simp] theorem countTick_turn : s.countTick.turn = s.turn := rfl

@[simp] theorem zeroTick_tick : s.zeroTick.tick = 0 := rfl
@[simp] theorem zeroTick_acc : s.zeroTick.acc = s.acc := rfl
@[simp] theorem zeroTick_idx : s.zeroTick.idx = s.idx := rfl
@[simp] theorem zeroTick_done : s.zeroTick.done = s.done := rfl
@[simp] theorem zeroTick_elatch : s.zeroTick.elatch = s.elatch := rfl
@[simp] theorem zeroTick_tpend : s.zeroTick.tpend = s.tpend := rfl
@[simp] theorem zeroTick_tmr : s.zeroTick.tmr = s.tmr := rfl
@[simp] theorem zeroTick_eie : s.zeroTick.eie = s.eie := rfl
@[simp] theorem zeroTick_gie : s.zeroTick.gie = s.gie := rfl
@[simp] theorem zeroTick_isr : s.zeroTick.isr = s.isr := rfl
@[simp] theorem zeroTick_act : s.zeroTick.act = s.act := rfl
@[simp] theorem zeroTick_ind : s.zeroTick.ind = s.ind := rfl
@[simp] theorem zeroTick_fg : s.zeroTick.fg = s.fg := rfl
@[simp] theorem zeroTick_obs : s.zeroTick.obs = s.obs := rfl
@[simp] theorem zeroTick_dtr : s.zeroTick.dtr = s.dtr := rfl
@[simp] theorem zeroTick_params : s.zeroTick.params = s.params := rfl
@[simp] theorem zeroTick_script : s.zeroTick.script = s.script := rfl
@[simp] theorem zeroTick_turn : s.zeroTick.turn = s.turn := rfl

@[simp] theorem shiftIn_tick (b : Bool) : (s.shiftIn b).tick = s.tick := rfl
@[simp] theorem shiftIn_acc (b : Bool) : (s.shiftIn b).acc = truncTo s.params.accW ((s.acc <<< 1) ||| b.toNat) := rfl
@[simp] theorem shiftIn_idx (b : Bool) : (s.shiftIn b).idx = s.idx := rfl
@[simp] theorem shiftIn_done (b : Bool) : (s.shiftIn b).done = s.done := rfl
@[simp] theorem shiftIn_elatch (b : Bool) : (s.shiftIn b).elatch = s.elatch := rfl
@[simp] theorem shiftIn_tpend (b : Bool) : (s.shiftIn b).tpend = s.tpend := rfl
@[simp] theorem shiftIn_tmr (b : Bool) : (s.shiftIn b).tmr = s.tmr := rfl
@[simp] theorem shiftIn_eie (b : Bool) : (s.shiftIn b).eie = s.eie := rfl
@[simp] theorem shiftIn_gie (b : Bool) : (s.shiftIn b).gie = s.gie := rfl
@[simp] theorem shiftIn_isr (b : Bool) : (s.shiftIn b).isr = s.isr := rfl
@[simp] theorem shiftIn_act (b : Bool) : (s.shiftIn b).act = s.act := rfl
@[simp] theorem shiftIn_ind (b : Bool) : (s.shiftIn b).ind = s.ind := rfl
@[simp] theorem shiftIn_fg (b : Bool) : (s.shiftIn b).fg = s.fg := rfl
@[simp] theorem shiftIn_obs (b : Bool) : (s.shiftIn b).obs = s.obs := rfl
@[simp] theorem shiftIn_dtr (b : Bool) : (s.shiftIn b).dtr = s.dtr := rfl
@[simp] theorem shiftIn_params (b : Bool) : (s.shiftIn b).params = s.params := rfl
@[simp] theorem shiftIn_script (b : Bool) : (s.shiftIn b).script = s.script := rfl
@[simp] theorem shiftIn_turn (b : Bool) : (s.shiftIn b).turn = s.turn := rfl

@[simp] theorem countBit_tick : s.countBit.tick = s.tick := rfl
@[simp] theorem countBit_acc : s.countBit.acc = s.acc := rfl
@[simp] theorem countBit_idx : s.countBit.idx = if h : s.idx.val < 32 then ⟨s.idx.val + 1, Nat.succ_lt_succ h⟩ else s.idx := rfl
@[simp] theorem countBit_done : s.countBit.done = s.done := rfl
@[simp] theorem countBit_elatch : s.countBit.elatch = s.elatch := rfl
@[simp] theorem countBit_tpend : s.countBit.tpend = s.tpend := rfl
@[simp] theorem countBit_tmr : s.countBit.tmr = s.tmr := rfl
@[simp] theorem countBit_eie : s.countBit.eie = s.eie := rfl
@[simp] theorem countBit_gie : s.countBit.gie = s.gie := rfl
@[simp] theorem countBit_isr : s.countBit.isr = s.isr := rfl
@[simp] theorem countBit_act : s.countBit.act = s.act := rfl
@[simp] theorem countBit_ind : s.countBit.ind = s.ind := rfl
@[simp] theorem countBit_fg : s.countBit.fg = s.fg := rfl
@[simp] theorem countBit_obs : s.countBit.obs = s.obs := rfl
@[simp] theorem countBit_dtr : s.countBit.dtr = s.dtr := rfl
@[simp] theorem countBit_params : s.countBit.params = s.params := rfl
@[simp] theorem countBit_script : s.countBit.script = s.script := rfl
@[simp] theorem countBit_turn : s.countBit.turn = s.turn := rfl

@[simp] theorem clearAcc_tick : s.clearAcc.tick = s.tick := rfl
@[simp] theorem clearAcc_acc : s.clearAcc.acc = 0 := rfl
@[simp] theorem clearAcc_idx : s.clearAcc.idx = s.idx := rfl
@[simp] theorem clearAcc_done : s.clearAcc.done = s.done := rfl
@[simp] theorem clearAcc_elatch : s.clearAcc.elatch = s.elatch := rfl
@[simp] theorem clearAcc_tpend : s.clearAcc.tpend = s.tpend := rfl
@[simp] theorem clearAcc_tmr : s.clearAcc.tmr = s.tmr := rfl
@[simp] theorem clearAcc_eie : s.clearAcc.eie = s.eie := rfl
@[simp] theorem clearAcc_gie : s.clearAcc.gie = s.gie := rfl
@[simp] theorem clearAcc_isr : s.clearAcc.isr = s.isr := rfl
@[simp] theorem clearAcc_act : s.clearAcc.act = s.act := rfl
@[simp] theorem clearAcc_ind : s.clearAcc.ind = s.ind := rfl
@[simp] theorem clearAcc_fg : s.clearAcc.fg = s.fg := rfl
@[simp] theorem clearAcc_obs : s.clearAcc.obs = s.obs := rfl
@[simp] theorem clearAcc_dtr : s.clearAcc.dtr = s.dtr := rfl
@[simp] theorem clearAcc_params : s.clearAcc.params = s.params := rfl
@[simp] theorem clearAcc_script : s.clearAcc.script = s.script := rfl
@[simp] theorem clearAcc_turn : s.clearAcc.turn = s.turn := rfl

@[simp] theorem clearIdx_tick : s.clearIdx.tick = s.tick := rfl
@[simp] theorem clearIdx_acc : s.clearIdx.acc = s.acc := rfl
@[simp] theorem clearIdx_idx : s.clearIdx.idx = 0 := rfl
@[simp] theorem clearIdx_done : s.clearIdx.done = s.done := rfl
@[simp] theorem clearIdx_elatch : s.clearIdx.elatch = s.elatch := rfl
@[simp] theorem clearIdx_tpend : s.clearIdx.tpend = s.tpend := rfl
@[simp] theorem clearIdx_tmr : s.clearIdx.tmr = s.tmr := rfl
@[simp] theorem clearIdx_eie : s.clearIdx.eie = s.eie := rfl
@[simp] theorem clearIdx_gie : s.clearIdx.gie = s.gie := rfl
@[simp] theorem clearIdx_isr : s.clearIdx.isr = s.isr := rfl
@[simp] theorem clearIdx_act : s.clearIdx.act = s.act := rfl
@[simp] theorem clearIdx_ind : s.clearIdx.ind = s.ind := rfl
@[simp] theorem clearIdx_fg : s.clearIdx.fg = s.fg := rfl
@[simp] theorem clearIdx_obs : s.clearIdx.obs = s.obs := rfl
@[simp] theorem clearIdx_dtr : s.clearIdx.dtr = s.dtr := rfl
@[simp] theorem clearIdx_params : s.clearIdx.params = s.params := rfl
@[simp] theorem clearIdx_script : s.clearIdx.script = s.script := rfl
@[simp] theorem clearIdx_turn : s.clearIdx.turn = s.turn := rfl

@[simp] theorem clearFrame_tick : s.clearFrame.tick = s.tick := rfl
@[simp] theorem clearFrame_acc : s.clearFrame.acc = 0 := rfl
@[simp] theorem clearFrame_idx : s.clearFrame.idx = 0 := rfl
@[simp] theorem clearFrame_done : s.clearFrame.done = s.done := rfl
@[simp] theorem clearFrame_elatch : s.clearFrame.elatch = s.elatch := rfl
@[simp] theorem clearFrame_tpend : s.clearFrame.tpend = s.tpend := rfl
@[simp] theorem clearFrame_tmr : s.clearFrame.tmr = s.tmr := rfl
@[simp] theorem clearFrame_eie : s.clearFrame.eie = s.eie := rfl
@[simp] theorem clearFrame_gie : s.clearFrame.gie = s.gie := rfl
@[simp] theorem clearFrame_isr : s.clearFrame.isr = s.isr := rfl
@[simp] theorem clearFrame_act : s.clearFrame.act = s.act := rfl
@[simp] theorem clearFrame_ind : s.clearFrame.ind = s.ind := rfl
@[simp] theorem clearFrame_fg : s.clearFrame.fg = s.fg := rfl
@[simp] theorem clearFrame_obs : s.clearFrame.obs = s.obs := rfl
@[simp] theorem clearFrame_dtr : s.clearFrame.dtr = s.dtr := rfl
@[simp] theorem clearFrame_params : s.clearFrame.params = s.params := rfl
@[simp] theorem clearFrame_script : s.clearFrame.script = s.script := rfl
@[simp] theorem clearFrame_turn : s.clearFrame.turn = s.turn := rfl

@[simp] theorem setDone_tick (b : Bool) : (s.setDone b).tick = s.tick := rfl
@[simp] theorem setDone_acc (b : Bool) : (s.setDone b).acc = s.acc := rfl
@[simp] theorem setDone_idx (b : Bool) : (s.setDone b).idx = s.idx := rfl
@[simp] theorem setDone_done (b : Bool) : (s.setDone b).done = b := rfl
@[simp] theorem setDone_elatch (b : Bool) : (s.setDone b).elatch = s.elatch := rfl
@[simp] theorem setDone_tpend (b : Bool) : (s.setDone b).tpend = s.tpend := rfl
@[simp] theorem setDone_tmr (b : Bool) : (s.setDone b).tmr = s.tmr := rfl
@[simp] theorem setDone_eie (b : Bool) : (s.setDone b).eie = s.eie := rfl
@[simp] theorem setDone_gie (b : Bool) : (s.setDone b).gie = s.gie := rfl
@[simp] theorem setDone_isr (b : Bool) : (s.setDone b).isr = s.isr := rfl
@[simp] theorem setDone_act (b : Bool) : (s.setDone b).act = s.act := rfl
@[simp] theorem setDone_ind (b : Bool) : (s.setDone b).ind = s.ind := rfl
@[simp] theorem setDone_fg (b : Bool) : (s.setDone b).fg = s.fg := rfl
@[simp] theorem setDone_obs (b : Bool) : (s.setDone b).obs = s.obs := rfl
@[simp] theorem setDone_dtr (b : Bool) : (s.setDone b).dtr = s.dtr := rfl
@[simp] theorem setDone_params (b : Bool) : (s.setDone b).params = s.params := rfl
@[simp] theorem setDone_script (b : Bool) : (s.setDone b).script = s.script := rfl
@[simp] theorem setDone_turn (b : Bool) : (s.setDone b).turn = s.turn := rfl

@[simp] theorem clearLatch_tick : s.clearLatch.tick = s.tick := rfl
@[simp] theorem clearLatch_acc : s.clearLatch.acc = s.acc := rfl
@[simp] theorem clearLatch_idx : s.clearLatch.idx = s.idx := rfl
@[simp] theorem clearLatch_done : s.clearLatch.done = s.done := rfl
@[simp] theorem clearLatch_elatch : s.clearLatch.elatch = ⟨false, false⟩ := rfl
@[simp] theorem clearLatch_tpend : s.clearLatch.tpend = s.tpend := rfl
@[simp] theorem clearLatch_tmr : s.clearLatch.tmr = s.tmr := rfl
@[simp] theorem clearLatch_eie : s.clearLatch.eie = s.eie := rfl
@[simp] theorem clearLatch_gie : s.clearLatch.gie = s.gie := rfl
@[simp] theorem clearLatch_isr : s.clearLatch.isr = s.isr := rfl
@[simp] theorem clearLatch_act : s.clearLatch.act = s.act := rfl
@[simp] theorem clearLatch_ind : s.clearLatch.ind = s.ind := rfl
@[simp] theorem clearLatch_fg : s.clearLatch.fg = s.fg := rfl
@[simp] theorem clearLatch_obs : s.clearLatch.obs = s.obs := rfl
@[simp] theorem clearLatch_dtr : s.clearLatch.dtr = s.dtr := rfl
@[simp] theorem clearLatch_params : s.clearLatch.params = s.params := rfl
@[simp] theorem clearLatch_script : s.clearLatch.script = s.script := rfl
@[simp] theorem clearLatch_turn : s.clearLatch.turn = s.turn := rfl

@[simp] theorem setTimer_tick (c : TimerCfg) : (s.setTimer c).tick = s.tick := rfl
@[simp] theorem setTimer_acc (c : TimerCfg) : (s.setTimer c).acc = s.acc := rfl
@[simp] theorem setTimer_idx (c : TimerCfg) : (s.setTimer c).idx = s.idx := rfl
@[simp] theorem setTimer_done (c : TimerCfg) : (s.setTimer c).done = s.done := rfl
@[simp] theorem setTimer_elatch (c : TimerCfg) : (s.setTimer c).elatch = s.elatch := rfl
@[simp] theorem setTimer_tpend (c : TimerCfg) : (s.setTimer c).tpend = s.tpend := rfl
@[simp] theorem setTimer_tmr (c : TimerCfg) : (s.setTimer c).tmr = c := rfl
@[simp] theorem setTimer_eie (c : TimerCfg) : (s.setTimer c).eie = s.eie := rfl
@[simp] theorem setTimer_gie (c : TimerCfg) : (s.setTimer c).gie = s.gie := rfl
@[simp] theorem setTimer_isr (c : TimerCfg) : (s.setTimer c).isr = s.isr := rfl
@[simp] theorem setTimer_act (c : TimerCfg) : (s.setTimer c).act = s.act := rfl
@[simp] theorem setTimer_ind (c : TimerCfg) : (s.setTimer c).ind = s.ind := rfl
@[simp] theorem setTimer_fg (c : TimerCfg) : (s.setTimer c).fg = s.fg := rfl
@[simp] theorem setTimer_obs (c : TimerCfg) : (s.setTimer c).obs = s.obs := rfl
@[simp] theorem setTimer_dtr (c : TimerCfg) : (s.setTimer c).dtr = s.dtr := rfl
@[simp] theorem setTimer_params (c : TimerCfg) : (s.setTimer c).params = s.params := rfl
@[simp] theorem setTimer_script (c : TimerCfg) : (s.setTimer c).script = s.script := rfl
@[simp] theorem setTimer_turn (c : TimerCfg) : (s.setTimer c).turn = s.turn := rfl

@[simp] theorem setPending_tick (b : Bool) : (s.setPending b).tick = s.tick := rfl
@[simp] theorem setPending_acc (b : Bool) : (s.setPending b).acc = s.acc := rfl
@[simp] theorem setPending_idx (b : Bool) : (s.setPending b).idx = s.idx := rfl
@[simp] theorem setPending_done (b : Bool) : (s.setPending b).done = s.done := rfl
@[simp] theorem setPending_elatch (b : Bool) : (s.setPending b).elatch = s.elatch := rfl
@[simp] theorem setPending_tpend (b : Bool) : (s.setPending b).tpend = b := rfl
@[simp] theorem setPending_tmr (b : Bool) : (s.setPending b).tmr = s.tmr := rfl
@[simp] theorem setPending_eie (b : Bool) : (s.setPending b).eie = s.eie := rfl
@[simp] theorem setPending_gie (b : Bool) : (s.setPending b).gie = s.gie := rfl
@[simp] theorem setPending_isr (b : Bool) : (s.setPending b).isr = s.isr := rfl
@[simp] theorem setPending_act (b : Bool) : (s.setPending b).act = s.act := rfl
@[simp] theorem setPending_ind (b : Bool) : (s.setPending b).ind = s.ind := rfl
@[simp] theorem setPending_fg (b : Bool) : (s.setPending b).fg = s.fg := rfl
@[simp] theorem setPending_obs (b : Bool) : (s.setPending b).obs = s.obs := rfl
@[simp] theorem setPending_dtr (b : Bool) : (s.setPending b).dtr = s.dtr := rfl
@[simp] theorem setPending_params (b : Bool) : (s.setPending b).params = s.params := rfl
@[simp] theorem setPending_script (b : Bool) : (s.setPending b).script = s.script := rfl
@[simp] theorem setPending_turn (b : Bool) : (s.setPending b).turn = s.turn := rfl

@[simp] theorem setEdgeEnable_tick (b : Bool) : (s.setEdgeEnable b).tick = s.tick := rfl
@[simp] theorem setEdgeEnable_acc (b : Bool) : (s.setEdgeEnable b).acc = s.acc := rfl
@[simp] theorem setEdgeEnable_idx (b : Bool) : (s.setEdgeEnable b).idx = s.idx := rfl
@[simp] theorem setEdgeEnable_done (b : Bool) : (s.setEdgeEnable b).done = s.done := rfl
@[simp] theorem setEdgeEnable_elatch (b : Bool) : (s.setEdgeEnable b).elatch = s.elatch := rfl
@[simp] theorem setEdgeEnable_tpend (b : Bool) : (s.setEdgeEnable b).tpend = s.tpend := rfl
@[simp] theorem setEdgeEnable_tmr (b : Bool) : (s.setEdgeEnable b).tmr = s.tmr := rfl
@[simp] theorem setEdgeEnable_eie (b : Bool) : (s.setEdgeEnable b).eie = b := rfl
@[simp] theorem setEdgeEnable_gie (b : Bool) : (s.setEdgeEnable b).gie = s.gie := rfl
@[simp] theorem setEdgeEnable_isr (b : Bool) : (s.setEdgeEnable b).isr = s.isr := rfl
@[simp] theorem setEdgeEnable_act (b : Bool) : (s.setEdgeEnable b).act = s.act := rfl
@[simp] theorem setEdgeEnable_ind (b : Bool) : (s.setEdgeEnable b).ind = s.ind := rfl
@[simp] theorem setEdgeEnable_fg (b : Bool) : (s.setEdgeEnable b).fg = s.fg := rfl
@[simp] theorem setEdgeEnable_obs (b : Bool) : (s.setEdgeEnable b).obs = s.obs := rfl
@[simp] theorem setEdgeEnable_dtr (b : Bool) : (s.setEdgeEnable b).dtr = s.dtr := rfl
@[simp] theorem setEdgeEnable_params (b : Bool) : (s.setEdgeEnable b).params = s.params := rfl
@[simp] theorem setEdgeEnable_script (b : Bool) : (s.setEdgeEnable b).script = s.script := rfl
@[simp] theorem setEdgeEnable_turn (b : Bool) : (s.setEdgeEnable b).turn = s.turn := rfl

@[simp] theorem enableInterrupts_tick : s.enableInterrupts.tick = s.tick := rfl
@[simp] theorem enableInterrupts_acc : s.enableInterrupts.acc = s.acc := rfl
@[simp] theorem enableInterrupts_idx : s.enableInterrupts.idx = s.idx := rfl
@[simp] theorem enableInterrupts_done : s.enableInterrupts.done = s.done := rfl
@[simp] theorem enableInterrupts_elatch : s.enableInterrupts.elatch = s.elatch := rfl
@[simp] theorem enableInterrupts_tpend : s.enableInterrupts.tpend = s.tpend := rfl
@[simp] theorem enableInterrupts_tmr : s.enableInterrupts.tmr = s.tmr := rfl
@[simp] theorem enableInterrupts_eie : s.enableInterrupts.eie = s.eie := rfl
@[simp] theorem enableInterrupts_gie : s.enableInterrupts.gie = true := rfl
@[simp] theorem enableInterrupts_isr : s.enableInterrupts.isr = s.isr := rfl
@[simp] theorem enableInterrupts_act : s.enableInterrupts.act = s.act := rfl
@[simp] theorem enableInterrupts_ind : s.enableInterrupts.ind = s.ind := rfl
@[simp] theorem enableInterrupts_fg : s.enableInterrupts.fg = s.fg := rfl
@[simp] theorem enableInterrupts_obs : s.enableInterrupts.obs = s.obs := rfl
@[simp] theorem enableInterrupts_dtr : s.enableInterrupts.dtr = s.dtr := rfl
@[simp] theorem enableInterrupts_params : s.enableInterrupts.params = s.params := rfl
@[simp] theorem enableInterrupts_script : s.enableInterrupts.script = s.script := rfl
@[simp] theorem enableInterrupts_turn : s.enableInterrupts.turn = s.turn := rfl

@[simp] theorem enterEdge_tick : s.enterEdge.tick = s.tick := rfl
@[simp] theorem enterEdge_acc : s.enterEdge.acc = s.acc := rfl
@[simp] theorem enterEdge_idx : s.enterEdge.idx = s.idx := rfl
@[simp] theorem enterEdge_done : s.enterEdge.done = s.done := rfl
@[simp] theorem enterEdge_elatch : s.enterEdge.elatch = s.elatch := rfl
@[simp] theorem enterEdge_tpend : s.enterEdge.tpend = s.tpend := rfl
@[simp] theorem enterEdge_tmr : s.enterEdge.tmr = s.tmr := rfl
@[simp] theorem enterEdge_eie : s.enterEdge.eie = s.eie := rfl
@[simp] theorem enterEdge_gie : s.enterEdge.gie = s.gie := rfl
@[simp] theorem enterEdge_isr : s.enterEdge.isr = .edgeSettle := rfl
@[simp] theorem enterEdge_act : s.enterEdge.act = s.act := rfl
@[simp] theorem enterEdge_ind : s.enterEdge.ind = s.ind := rfl
@[simp] theorem enterEdge_fg : s.enterEdge.fg = s.fg := rfl
@[simp] theorem enterEdge_obs : s.enterEdge.obs = s.obs := rfl
@[simp] theorem enterEdge_dtr : s.enterEdge.dtr = s.dtr := rfl
@[simp] theorem enterEdge_params : s.enterEdge.params = s.params := rfl
@[simp] theorem enterEdge_script : s.enterEdge.script = s.script := rfl
@[simp] theorem enterEdge_turn : s.enterEdge.turn = s.turn := rfl

@[simp] theorem leaveEdge_tick : s.leaveEdge.tick = s.tick := rfl
@[simp] theorem leaveEdge_acc : s.leaveEdge.acc = s.acc := rfl
@[simp] theorem leaveEdge_idx : s.leaveEdge.idx = s.idx := rfl
@[simp] theorem leaveEdge_done : s.leaveEdge.done = s.done := rfl
@[simp] theorem leaveEdge_elatch : s.leaveEdge.elatch = ⟨false, false⟩ := rfl
@[simp] theorem leaveEdge_tpend : s.leaveEdge.tpend = s.tpend := rfl
@[simp] theorem leaveEdge_tmr : s.leaveEdge.tmr = s.tmr := rfl
@[simp] theorem leaveEdge_eie : s.leaveEdge.eie = s.eie := rfl
@[simp] theorem leaveEdge_gie : s.leaveEdge.gie = s.gie := rfl
@[simp] theorem leaveEdge_isr : s.leaveEdge.isr = .none := rfl
@[simp] theorem leaveEdge_act : s.leaveEdge.act = s.act := rfl
@[simp] theorem leaveEdge_ind : s.leaveEdge.ind = s.ind := rfl
@[simp] theorem leaveEdge_fg : s.leaveEdge.fg = s.fg := rfl
@[simp] theorem leaveEdge_obs : s.leaveEdge.obs = s.obs := rfl
@[simp] theorem leaveEdge_dtr : s.leaveEdge.dtr = s.dtr := rfl
@[simp] theorem leaveEdge_params : s.leaveEdge.params = s.params := rfl
@[simp] theorem leaveEdge_script : s.leaveEdge.script = s.script := rfl
@[simp] theorem leaveEdge_turn : s.leaveEdge.turn = s.turn := rfl

@[simp] theorem latchRise_tick : s.latchRise.tick = s.tick := rfl
@[simp] theorem latchRise_acc : s.latchRise.acc = s.acc := rfl
@[simp] theorem latchRise_idx : s.latchRise.idx = s.idx := rfl
@[simp] theorem latchRise_done : s.latchRise.done = s.done := rfl
@[simp] theorem latchRise_elatch : s.latchRise.elatch = ⟨true, s.elatch.f⟩ := rfl
@[simp] theorem latchRise_tpend : s.latchRise.tpend = s.tpend := rfl
@[simp] theorem latchRise_tmr : s.latchRise.tmr = s.tmr := rfl
@[simp] theorem latchRise_eie : s.latchRise.eie = s.eie := rfl
@[simp] theorem latchRise_gie : s.latchRise.gie = s.gie := rfl
@[simp] theorem latchRise_isr : s.latchRise.isr = s.isr := rfl
@[simp] theorem latchRise_act : s.latchRise.act = s.act := rfl
@[simp] theorem latchRise_ind : s.latchRise.ind = s.ind := rfl
@[simp] theorem latchRise_fg : s.latchRise.fg = s.fg := rfl
@[simp] theorem latchRise_obs : s.latchRise.obs = s.obs := rfl
@[simp] theorem latchRise_dtr : s.latchRise.dtr = s.dtr := rfl
@[simp] theorem latchRise_params : s.latchRise.params = s.params := rfl
@[simp] theorem latchRise_script : s.latchRise.script = s.script := rfl
@[simp] theorem latchRise_turn : s.latchRise.turn = s.turn := rfl

@[simp] theorem latchFall_tick : s.latchFall.tick = s.tick := rfl
@[simp] theorem latchFall_acc : s.latchFall.acc = s.acc := rfl
@[simp] theorem latchFall_idx : s.latchFall.idx = s.idx := rfl
@[simp] theorem latchFall_done : s.latchFall.done = s.done := rfl
@[simp] theorem latchFall_elatch : s.latchFall.elatch = ⟨s.elatch.r, true⟩ := rfl
@[simp] theorem latchFall_tpend : s.latchFall.tpend = s.tpend := rfl
@[simp] theorem latchFall_tmr : s.latchFall.tmr = s.tmr := rfl
@[simp] theorem latchFall_eie : s.latchFall.eie = s.eie := rfl
@[simp] theorem latchFall_gie : s.latchFall.gie = s.gie := rfl
@[simp] theorem latchFall_isr : s.latchFall.isr = s.isr := rfl
@[simp] theorem latchFall_act : s.latchFall.act = s.act := rfl
@[simp] theorem latchFall_ind : s.latchFall.ind = s.ind := rfl
@[simp] theorem latchFall_fg : s.latchFall.fg = s.fg := rfl
@[simp] theorem latchFall_obs : s.latchFall.obs = s.obs := rfl
@[simp] theorem latchFall_dtr : s.latchFall.dtr = s.dtr := rfl
@[simp] theorem latchFall_params : s.latchFall.params = s.params := rfl
@[simp] theorem latchFall_script : s.latchFall.script = s.script := rfl
@[simp] theorem latchFall_turn : s.latchFall.turn = s.turn := rfl

end Sys2Proof.Machine.State
end

