-- ==== Sys2Proof/Laws/Ops.lean ====
section
/-! SUPPORT. One lemma for each shared operation: everything it can do. -/

namespace Sys2Proof.Machine

theorem truncTo_lt (w v : Nat) : truncTo w v < 2 ^ w := Nat.mod_lt _ (Nat.two_pow_pos w)

theorem truncTo_of_lt {w v : Nat} (h : v < 2 ^ w) : truncTo w v = v := Nat.mod_eq_of_lt h

@[simp] theorem record_tickCfg (p : Params) : TimerCfg.tickCfg.record p = ⟨.tick, p.tickUs, 0, true⟩ := rfl

@[simp] theorem record_pwmCfg (p : Params) (q : Position) :
    (TimerCfg.pwmCfg q).record p = ⟨.pwm, p.pwmPeriodUs, widthOf p q, false⟩ := rfl

/-- The timer record depends on the configuration and the parameters only. -/
theorem timer_eq {s : State} {c : TimerCfg} (h : s.tmr = c) : s.timer = c.record s.params := by rw [State.timer, h]

/-- A guarded step answers a next state exactly where its condition holds. -/
theorem takeIf_next {m : Mnemonic} {c : Bool} {t u : State} : takeIf m c t = .next u ↔ c = true ∧ t = u := by
  unfold takeIf; split <;> simp_all

/-- It is refused, under its own name, exactly where the condition fails. -/
theorem takeIf_refused {m : Mnemonic} {c : Bool} {t : State} {r : Refusal} :
    takeIf m c t = .refused r ↔ c = false ∧ r = .notEnabled m := by
  unfold takeIf; split <;> simp_all [eq_comm]

/-- It never faults. -/
theorem takeIf_not_fault {m : Mnemonic} {c : Bool} {t : State} {f : Fault} : takeIf m c t ≠ .fault f := by
  unfold takeIf; split <;> simp

@[simp] theorem takeIf_true (m : Mnemonic) (t : State) : takeIf m true t = .next t := rfl

@[simp] theorem takeIf_false (m : Mnemonic) (t : State) : takeIf m false t = .refused (.notEnabled m) := rfl

/-- Below 32 bits the Bit Index counts one (R14). -/
theorem State.countBit_val {s : State} (h : s.idx.val < 32) : s.countBit.idx.val = s.idx.val + 1 := by
  simp [h]

theorem blinks_succ (l : Bool) (n : Nat) : blinks l (n + 1) = .ind (!l) :: blinks (!l) n := by
  simp only [blinks, List.range_succ_eq_map, List.map_cons, List.map_map]
  congr 1
  · cases l <;> rfl
  · refine List.map_congr_left fun k _ => ?_
    rcases Nat.mod_two_eq_zero_or_one k with h | h <;> cases l <;> simp [h, Nat.add_mod]

/-- `n` toggles: the pin ends inverted where `n` is odd, and each toggle is one event (R56, R64). -/
theorem State.toggles_eq (s : State) (n : Nat) :
    s.toggles n = { s with ind := s.ind ^^ (n % 2 == 1), obs := s.obs ++ blinks s.ind n } := by
  induction n generalizing s with
  | zero => simp [toggles, blinks]
  | succ n ih =>
    have parity : ((n + 1) % 2 == 1) = !(n % 2 == 1) := by
      rcases Nat.mod_two_eq_zero_or_one n with h | h <;> simp [h, Nat.add_mod]
    rw [toggles, ih]
    simp [toggle, blinks_succ, parity]

end Sys2Proof.Machine
end

