-- ==== Sys2Proof/Laws/Operands.lean ====
section
/-! SUPPORT. What the operand forms and the selectors say, once each. -/

namespace Sys2Proof.Machine

/-- The class of an interval, case by case (R42). -/
theorem classOf_cases (p : Params) (d : Nat) :
    (d < p.t1 ∧ classOf p d = 0b00) ∨ (¬ d < p.t1 ∧ d < p.tHdr ∧ classOf p d = 0b01) ∨
    (¬ d < p.t1 ∧ ¬ d < p.tHdr ∧ d < p.tGap ∧ classOf p d = 0b10) ∨
    (¬ d < p.t1 ∧ ¬ d < p.tHdr ∧ ¬ d < p.tGap ∧ classOf p d = 0b11) := by
  unfold classOf
  by_cases h1 : d < p.t1 <;> by_cases h2 : d < p.tHdr <;> by_cases h3 : d < p.tGap <;> simp [h1, h2, h3]

/-- The arm the latch selects (R41). -/
theorem selectEdge_readEl (s : State) :
    selectEdge (readEl s) =
      if s.elatch.r = true then (if s.elatch.f = true then .double else .rise)
      else (if s.elatch.f = true then .fall else .none) := by
  unfold readEl
  generalize s.elatch.r = r
  generalize s.elatch.f = f
  revert r f
  decide

/-- What `FS` selects, field by field (R43). -/
theorem selectFall_fields : ∀ (done full z : Bool) (c : BitVec 2),
    selectFall (BitVec.ofBool done ++ BitVec.ofBool full ++ c ++ BitVec.ofBool z) =
      if done = true then .idle
      else if full = true then .full
      else if c = 0b00 then .bit0
      else if c = 0b01 then .bit1
      else if c = 0b10 then (if z = true then .hdrOk else .hdrErr)
      else .gap := by
  decide

/-- `readEl` is empty exactly where no edge is pending. -/
theorem readEl_eq_zero (s : State) : readEl s = 0b00 ↔ s.edgePending = false := by
  unfold readEl State.edgePending
  generalize s.elatch.r = r
  generalize s.elatch.f = f
  revert r f
  decide

end Sys2Proof.Machine
end

