-- ==== Sys2Proof/Laws/Exec.lean ====
section
/-! SUPPORT. One inversion lemma per meaning: when it answers a next state, and which. -/

namespace Sys2Proof.Machine

variable {s t : State}

/-- The loop-top variant touches the latch only (R69). -/
theorem loopTop_eq (s : State) :
    loopTop s = { s with elatch := if s.params.looptopClear = true then ⟨false, false⟩ else s.elatch } := by
  unfold loopTop; split <;> rfl

/-- The reset policy of a header error touches the frame only (R64). -/
theorem afterHdrErr_eq (s : State) :
    afterHdrErr s = { s with
      acc := if s.params.hdrErrReset = true then 0 else s.acc
      idx := if s.params.hdrErrReset = true then 0 else s.idx } := by
  unfold afterHdrErr; split <;> rfl

/-- The gap policy touches the frame and the diag trace only (R65). -/
theorem afterGap_eq (s : State) :
    afterGap s = { s with
      acc := if s.params.gapPolicy = .abort then 0 else s.acc
      idx := if s.params.gapPolicy = .abort then 0 else s.idx
      dtr := if s.params.gapPolicy = .abort then s.dtr ++ [.gapAbort] else s.dtr } := by
  unfold afterGap; split <;> rename_i h <;> simp only [h] <;> rfl

theorem execEvRise_next : execEvRise s = .next t ↔ s.latchRise = t := by simp [execEvRise]

theorem execEvFall_next : execEvFall s = .next t ↔ s.latchFall = t := by simp [execEvFall]

theorem execEvTick_next : execEvTick s = .next t ↔
    (if s.booted && s.timer.mode == .tick then s.setPending true else s) = t := by simp only [execEvTick, Host.Outcome.next.injEq]

theorem execIsrTick_next : execIsrTick s = .next t ↔ enabled s .isrTick = true ∧
    s.countTick.setPending false = t := takeIf_next

theorem execEdgeDouble_next : execEdgeDouble s = .next t ↔ enabled s .edgeDouble = true ∧
    (s.enterEdge.toggles s.params.faultToggles).diag .doubleEdge = t := takeIf_next

theorem execEdgeRise_next : execEdgeRise s = .next t ↔ enabled s .edgeRise = true ∧
    (s.enterEdge.setDone false).zeroTick = t := takeIf_next

theorem execEdgeNone_next : execEdgeNone s = .next t ↔ enabled s .edgeNone = true ∧
    s.enterEdge = t := takeIf_next

theorem execFallIdle_next : execFallIdle s = .next t ↔ enabled s .fallIdle = true ∧
    s.enterEdge = t := takeIf_next

theorem execFallFull_next : execFallFull s = .next t ↔ enabled s .fallFull = true ∧
    s.enterEdge = t := takeIf_next

theorem execFallBit0_next : execFallBit0 s = .next t ↔ enabled s .fallBit0 = true ∧
    (s.enterEdge.shiftIn false).countBit = t := takeIf_next

theorem execFallBit1_next : execFallBit1 s = .next t ↔ enabled s .fallBit1 = true ∧
    (s.enterEdge.shiftIn true).countBit = t := takeIf_next

theorem execFallHdrOk_next : execFallHdrOk s = .next t ↔ enabled s .fallHdrOk = true ∧
    s.enterEdge = t := takeIf_next

theorem execFallHdrErr_next : execFallHdrErr s = .next t ↔ enabled s .fallHdrErr = true ∧
    afterHdrErr ((s.enterEdge.toggles s.params.hdrErrToggles).diag .hdrMidframe) = t := takeIf_next

theorem execFallGap_next : execFallGap s = .next t ↔ enabled s .fallGap = true ∧
    afterGap s.enterEdge = t := takeIf_next

theorem execIsrEdgeEnd_next : execIsrEdgeEnd s = .next t ↔ enabled s .isrEdgeEnd = true ∧
    s.leaveEdge = t := takeIf_next

theorem execBootOk_next : execBootOk s = .next t ↔ enabled s .bootOk = true ∧
    (((((s.setTimer .tickCfg).setPending false).clearLatch).setEdgeEnable true).enableInterrupts).goto .l1 = t := takeIf_next

theorem execBootHalt_next : execBootHalt s = .next t ↔ enabled s .bootHalt = true ∧
    (s.diag .bootCalibHalt).goto .halt = t := takeIf_next

theorem execDispClear_next : execDispClear s = .next t ↔ enabled s .dispClear = true ∧
    (loopTop s.clearAcc).goto .l2 = t := takeIf_next

theorem execDispWait_next : execDispWait s = .next t ↔ enabled s .dispWait = true ∧
    s.goto (if s.frameComplete then .l3 else .l2) = t := takeIf_next

theorem execDispRearm_next : execDispRearm s = .next t ↔ enabled s .dispRearm = true ∧
    (s.clearIdx.setDone true).goto .l4 = t := takeIf_next

theorem execCmdPosA_next : execCmdPosA s = .next t ↔ enabled s .cmdPosA = true ∧
    s.goto (.act .a) = t := takeIf_next

theorem execCmdPosB_next : execCmdPosB s = .next t ↔ enabled s .cmdPosB = true ∧
    s.goto (.act .b) = t := takeIf_next

theorem execCmdPosC_next : execCmdPosC s = .next t ↔ enabled s .cmdPosC = true ∧
    s.goto (.act .c) = t := takeIf_next

theorem execCmdToggle_next : execCmdToggle s = .next t ↔ enabled s .cmdToggle = true ∧
    s.toggle.goto .l1 = t := takeIf_next

theorem execCmdOther_next {cw : CwWord} : execCmdOther cw s = .next t ↔ (enabled s .cmdOther && s.acc == cw) = true ∧
    (s.clearIdx.diag .cmdUnrecognized).goto .l1 = t := takeIf_next

theorem execActEnter_next {p : Position} : execActEnter p s = .next t ↔ fgAt s (.act p) = true ∧
    ((((s.setTimer (.pwmCfg p)).setPending false).setEdgeEnable false).drive
      (.pwm (widthOf s.params p))).goto (.dwell p) = t := takeIf_next

theorem execActExit_next {p : Position} : execActExit p s = .next t ↔ fgAt s (.dwell p) = true ∧
    ((((s.drive .low).setTimer .tickCfg).clearLatch).setEdgeEnable true).goto .l1 = t := takeIf_next

/-- EDGE_FALL is the arm its selector gives (R58). -/
theorem execEdgeFall_eq (h : enabled s .edgeFall = true) : execEdgeFall s = exec (selectFall (readFs s)).instr s := by
  unfold execEdgeFall
  rw [if_pos h]
  cases selectFall (readFs s) <;> rfl

/-- ISR_EDGE_BEGIN is the arm its latch selects (R55). -/
theorem execIsrEdgeBegin_eq {r f : Bool} (h : (enabled s .isrEdgeBegin && s.elatch == ⟨r, f⟩) = true) :
    execIsrEdgeBegin r f s = exec (selectEdge (elWord r f)).instr s := by
  unfold execIsrEdgeBegin
  rw [if_pos h]
  cases selectEdge (elWord r f) <;> rfl

/-- DISP_DISPATCH is the arm `acc` selects (R72). -/
theorem execDispDispatch_eq (h : enabled s .dispDispatch = true) :
    execDispDispatch s = exec ((selectCmd s.params s.acc).instr s.acc) s := by
  unfold execDispDispatch
  rw [if_pos h]
  cases selectCmd s.params s.acc <;> rfl

theorem execEdgeFall_enabled (h : execEdgeFall s = .next t) : enabled s .edgeFall = true := by
  unfold execEdgeFall at h
  split at h
  · assumption
  · cases h

theorem execIsrEdgeBegin_enabled {r f : Bool} (h : execIsrEdgeBegin r f s = .next t) :
    (enabled s .isrEdgeBegin && s.elatch == ⟨r, f⟩) = true := by
  unfold execIsrEdgeBegin at h
  split at h
  · assumption
  · cases h

theorem execDispDispatch_enabled (h : execDispDispatch s = .next t) : enabled s .dispDispatch = true := by
  unfold execDispDispatch at h
  split at h
  · assumption
  · cases h

/-- Everything one atomic step can do: which arm or step was taken, under which condition, and the state it leaves.
ISR_EDGE_BEGIN, EDGE_FALL and DISP_DISPATCH have no line of their own: each is one of its arms. -/
inductive Took (s : State) : Mnemonic → State → Prop where
  | evRise : Took s .evRise s.latchRise
  | evFall : Took s .evFall s.latchFall
  | tickPending (hb : s.booted = true) (hm : s.timer.mode = .tick) : Took s .evTick (s.setPending true)
  | tickLost (h : s.booted = true → s.timer.mode ≠ .tick) : Took s .evTick s
  | isrTick (h : enabled s .isrTick = true) : Took s .isrTick (s.countTick.setPending false)
  | edgeDouble (h : enabled s .edgeDouble = true) :
      Took s .edgeDouble ((s.enterEdge.toggles s.params.faultToggles).diag .doubleEdge)
  | edgeRise (h : enabled s .edgeRise = true) : Took s .edgeRise ((s.enterEdge.setDone false).zeroTick)
  | edgeNone (h : enabled s .edgeNone = true) : Took s .edgeNone s.enterEdge
  | fallIdle (h : enabled s .fallIdle = true) : Took s .fallIdle s.enterEdge
  | fallFull (h : enabled s .fallFull = true) : Took s .fallFull s.enterEdge
  | fallBit0 (h : enabled s .fallBit0 = true) : Took s .fallBit0 ((s.enterEdge.shiftIn false).countBit)
  | fallBit1 (h : enabled s .fallBit1 = true) : Took s .fallBit1 ((s.enterEdge.shiftIn true).countBit)
  | fallHdrOk (h : enabled s .fallHdrOk = true) : Took s .fallHdrOk s.enterEdge
  | fallHdrErr (h : enabled s .fallHdrErr = true) :
      Took s .fallHdrErr (afterHdrErr ((s.enterEdge.toggles s.params.hdrErrToggles).diag .hdrMidframe))
  | fallGap (h : enabled s .fallGap = true) : Took s .fallGap (afterGap s.enterEdge)
  | isrEdgeEnd (h : enabled s .isrEdgeEnd = true) : Took s .isrEdgeEnd s.leaveEdge
  | bootOk (h : enabled s .bootOk = true) : Took s .bootOk
      ((((((s.setTimer .tickCfg).setPending false).clearLatch).setEdgeEnable true).enableInterrupts).goto .l1)
  | bootHalt (h : enabled s .bootHalt = true) : Took s .bootHalt ((s.diag .bootCalibHalt).goto .halt)
  | dispClear (h : enabled s .dispClear = true) : Took s .dispClear ((loopTop s.clearAcc).goto .l2)
  | dispWait (h : enabled s .dispWait = true) : Took s .dispWait (s.goto (if s.frameComplete then .l3 else .l2))
  | dispRearm (h : enabled s .dispRearm = true) : Took s .dispRearm ((s.clearIdx.setDone true).goto .l4)
  | cmdPosA (h : enabled s .cmdPosA = true) : Took s .cmdPosA (s.goto (.act .a))
  | cmdPosB (h : enabled s .cmdPosB = true) : Took s .cmdPosB (s.goto (.act .b))
  | cmdPosC (h : enabled s .cmdPosC = true) : Took s .cmdPosC (s.goto (.act .c))
  | cmdToggle (h : enabled s .cmdToggle = true) : Took s .cmdToggle (s.toggle.goto .l1)
  | cmdOther (h : enabled s .cmdOther = true) :
      Took s .cmdOther ((s.clearIdx.diag .cmdUnrecognized).goto .l1)
  | actEnter (p : Position) (h : fgAt s (.act p) = true) : Took s .actEnter
      (((((s.setTimer (.pwmCfg p)).setPending false).setEdgeEnable false).drive
        (.pwm (widthOf s.params p))).goto (.dwell p))
  | actExit (p : Position) (h : fgAt s (.dwell p) = true) : Took s .actExit
      (((((s.drive .low).setTimer .tickCfg).clearLatch).setEdgeEnable true).goto .l1)

/-- The step `i` may be taken under the name `m`: its own, or that of an arm it selects. -/
def TakenAs (s : State) (i : Instr) (m : Mnemonic) : Prop :=
  m = i.mnemonic ∨
  (i = .edgeFall ∧ m = (selectFall (readFs s)).instr.mnemonic) ∨
  (i = .dispDispatch ∧ m = ((selectCmd s.params s.acc).instr s.acc).mnemonic) ∨
  ∃ r f, i = .isrEdgeBegin r f ∧ s.elatch = ⟨r, f⟩ ∧
    (m = (selectEdge (elWord r f)).instr.mnemonic ∨
      (selectEdge (elWord r f) = .fall ∧ m = (selectFall (readFs s)).instr.mnemonic))

/-- A step taken under the name of an agent's step, not of an arm, is that step. -/
theorem TakenAs.own {i : Instr} {m : Mnemonic} (h : TakenAs s i m) (hm : m ∈ Mnemonic.steps) : i.mnemonic = m := by
  have noEdge : ∀ a : EdgeArm, a.instr.mnemonic ∉ Mnemonic.steps := by intro a; cases a <;> decide
  have noFall : ∀ a : FallArm, a.instr.mnemonic ∉ Mnemonic.steps := by intro a; cases a <;> decide
  have noCmd : ∀ a : CmdArm, (a.instr s.acc).mnemonic ∉ Mnemonic.steps := by
    intro a; cases a <;> simp [CmdArm.instr, Instr.mnemonic, Mnemonic.steps]
  rcases h with rfl | ⟨_, rfl⟩ | ⟨_, rfl⟩ | ⟨r, f, _, _, rfl | ⟨_, rfl⟩⟩
  · rfl
  · exact absurd hm (noFall _)
  · exact absurd hm (noCmd _)
  · exact absurd hm (noEdge _)
  · exact absurd hm (noFall _)

/-- The arms of EDGE_FALL, inverted once. -/
theorem fallArm_took {a : FallArm} (h : exec a.instr s = .next t) : Took s a.instr.mnemonic t := by
  cases a
  · obtain ⟨he, rfl⟩ := execFallIdle_next.mp h; exact .fallIdle he
  · obtain ⟨he, rfl⟩ := execFallFull_next.mp h; exact .fallFull he
  · obtain ⟨he, rfl⟩ := execFallBit0_next.mp h; exact .fallBit0 he
  · obtain ⟨he, rfl⟩ := execFallBit1_next.mp h; exact .fallBit1 he
  · obtain ⟨he, rfl⟩ := execFallHdrOk_next.mp h; exact .fallHdrOk he
  · obtain ⟨he, rfl⟩ := execFallHdrErr_next.mp h; exact .fallHdrErr he
  · obtain ⟨he, rfl⟩ := execFallGap_next.mp h; exact .fallGap he

/-- The arms of DISP_DISPATCH, inverted once. -/
theorem cmdArm_took {a : CmdArm} {v : CwWord} (h : exec (a.instr v) s = .next t) : Took s (a.instr v).mnemonic t := by
  cases a
  · obtain ⟨he, rfl⟩ := execCmdPosA_next.mp h; exact .cmdPosA he
  · obtain ⟨he, rfl⟩ := execCmdPosB_next.mp h; exact .cmdPosB he
  · obtain ⟨he, rfl⟩ := execCmdPosC_next.mp h; exact .cmdPosC he
  · obtain ⟨he, rfl⟩ := execCmdToggle_next.mp h; exact .cmdToggle he
  · obtain ⟨he, rfl⟩ := execCmdOther_next.mp h
    rw [Bool.and_eq_true] at he
    exact .cmdOther he.1

/-- EDGE_FALL, inverted once. -/
theorem edgeFall_took (h : exec .edgeFall s = .next t) : Took s (selectFall (readFs s)).instr.mnemonic t :=
  fallArm_took ((execEdgeFall_eq (execEdgeFall_enabled h)).symm.trans h)

/-- The arms of ISR_EDGE_BEGIN, inverted once. -/
theorem edgeArm_took {a : EdgeArm} (h : exec a.instr s = .next t) :
    ∃ m, Took s m t ∧ (m = a.instr.mnemonic ∨ (a = .fall ∧ m = (selectFall (readFs s)).instr.mnemonic)) := by
  cases a
  · obtain ⟨he, rfl⟩ := execEdgeDouble_next.mp h; exact ⟨_, .edgeDouble he, .inl rfl⟩
  · obtain ⟨he, rfl⟩ := execEdgeRise_next.mp h; exact ⟨_, .edgeRise he, .inl rfl⟩
  · exact ⟨_, edgeFall_took h, .inr ⟨rfl, rfl⟩⟩
  · obtain ⟨he, rfl⟩ := execEdgeNone_next.mp h; exact ⟨_, .edgeNone he, .inl rfl⟩

/-- Whatever answers a next state took exactly one of these steps or arms. -/
theorem exec_took {i : Instr} (h : exec i s = .next t) : ∃ m, Took s m t ∧ TakenAs s i m := by
  cases i with
  | evRise => cases execEvRise_next.mp h; exact ⟨_, .evRise, .inl rfl⟩
  | evFall => cases execEvFall_next.mp h; exact ⟨_, .evFall, .inl rfl⟩
  | evTick =>
    have h' := execEvTick_next.mp h
    split at h' <;> subst h'
    · rename_i hc
      simp only [Bool.and_eq_true, beq_iff_eq] at hc
      exact ⟨_, .tickPending hc.1 hc.2, .inl rfl⟩
    · rename_i hc
      simp only [Bool.and_eq_true, beq_iff_eq, not_and] at hc
      exact ⟨_, .tickLost hc, .inl rfl⟩
  | isrTick => obtain ⟨he, rfl⟩ := execIsrTick_next.mp h; exact ⟨_, .isrTick he, .inl rfl⟩
  | isrEdgeBegin r f =>
    have hc := execIsrEdgeBegin_enabled h
    obtain ⟨m, hm, hn⟩ := edgeArm_took ((execIsrEdgeBegin_eq hc).symm.trans h)
    rw [Bool.and_eq_true, beq_iff_eq] at hc
    exact ⟨m, hm, .inr (.inr (.inr ⟨r, f, rfl, hc.2, hn⟩))⟩
  | edgeDouble => obtain ⟨he, rfl⟩ := execEdgeDouble_next.mp h; exact ⟨_, .edgeDouble he, .inl rfl⟩
  | edgeRise => obtain ⟨he, rfl⟩ := execEdgeRise_next.mp h; exact ⟨_, .edgeRise he, .inl rfl⟩
  | edgeFall => exact ⟨_, edgeFall_took h, .inr (.inl ⟨rfl, rfl⟩)⟩
  | edgeNone => obtain ⟨he, rfl⟩ := execEdgeNone_next.mp h; exact ⟨_, .edgeNone he, .inl rfl⟩
  | fallIdle => exact ⟨_, fallArm_took (a := .idle) h, .inl rfl⟩
  | fallFull => exact ⟨_, fallArm_took (a := .full) h, .inl rfl⟩
  | fallBit0 => exact ⟨_, fallArm_took (a := .bit0) h, .inl rfl⟩
  | fallBit1 => exact ⟨_, fallArm_took (a := .bit1) h, .inl rfl⟩
  | fallHdrOk => exact ⟨_, fallArm_took (a := .hdrOk) h, .inl rfl⟩
  | fallHdrErr => exact ⟨_, fallArm_took (a := .hdrErr) h, .inl rfl⟩
  | fallGap => exact ⟨_, fallArm_took (a := .gap) h, .inl rfl⟩
  | isrEdgeEnd => obtain ⟨he, rfl⟩ := execIsrEdgeEnd_next.mp h; exact ⟨_, .isrEdgeEnd he, .inl rfl⟩
  | bootOk => obtain ⟨he, rfl⟩ := execBootOk_next.mp h; exact ⟨_, .bootOk he, .inl rfl⟩
  | bootHalt => obtain ⟨he, rfl⟩ := execBootHalt_next.mp h; exact ⟨_, .bootHalt he, .inl rfl⟩
  | dispClear => obtain ⟨he, rfl⟩ := execDispClear_next.mp h; exact ⟨_, .dispClear he, .inl rfl⟩
  | dispWait => obtain ⟨he, rfl⟩ := execDispWait_next.mp h; exact ⟨_, .dispWait he, .inl rfl⟩
  | dispRearm => obtain ⟨he, rfl⟩ := execDispRearm_next.mp h; exact ⟨_, .dispRearm he, .inl rfl⟩
  | dispDispatch =>
    exact ⟨_, cmdArm_took ((execDispDispatch_eq (execDispDispatch_enabled h)).symm.trans h), .inr (.inr (.inl ⟨rfl, rfl⟩))⟩
  | cmdPosA => exact ⟨_, cmdArm_took (a := .posA) (v := 0) h, .inl rfl⟩
  | cmdPosB => exact ⟨_, cmdArm_took (a := .posB) (v := 0) h, .inl rfl⟩
  | cmdPosC => exact ⟨_, cmdArm_took (a := .posC) (v := 0) h, .inl rfl⟩
  | cmdToggle => exact ⟨_, cmdArm_took (a := .toggle) (v := 0) h, .inl rfl⟩
  | cmdOther v => exact ⟨_, cmdArm_took (a := .other) (v := v) h, .inl rfl⟩
  | actEnter p => obtain ⟨he, rfl⟩ := execActEnter_next.mp h; exact ⟨_, .actEnter p he, .inl rfl⟩
  | actExit p => obtain ⟨he, rfl⟩ := execActExit_next.mp h; exact ⟨_, .actExit p he, .inl rfl⟩

end Sys2Proof.Machine
end

