-- ==== Sys2Proof/Laws/PerInstr.lean ====
section
/-! SUPPORT. The laws stated per instruction. -/

namespace Sys2Proof.Laws.TableRow

/-- Under the default parameters, the encoding of a well-formed instruction matches the mask and the pattern of its row of
spec/opcode_table.json. -/
def Statement (i : Instr) : Prop :=
  ∀ c : Bool, i.wellFormed (Params.defaults c) = true →
    ∃ r ∈ tableRows, r.mnemonic = i.mnemonic ∧ r.holds (encode (Params.defaults c) i).number = true

/-- The row of an instruction without operands is found by evaluation. -/
theorem of_all_rows {i : Instr} (h : ∀ c : Bool, (tableRows.any fun r =>
    decide (r.mnemonic = i.mnemonic) && r.holds (encode (Params.defaults c) i).number) = true) : Statement i := by
  intro c _
  obtain ⟨r, hr, hm⟩ := List.any_eq_true.mp (h c)
  simp only [Bool.and_eq_true, decide_eq_true_eq] at hm
  exact ⟨r, hr, hm.1, hm.2⟩

theorem evRise : Statement .evRise := of_all_rows (by decide)
theorem evFall : Statement .evFall := of_all_rows (by decide)
theorem evTick : Statement .evTick := of_all_rows (by decide)
theorem isrTick : Statement .isrTick := of_all_rows (by decide)
theorem isrEdgeBegin (r f : Bool) : Statement (.isrEdgeBegin r f) := of_all_rows (by revert r f; decide)
theorem edgeDouble : Statement .edgeDouble := of_all_rows (by decide)
theorem edgeRise : Statement .edgeRise := of_all_rows (by decide)
theorem edgeFall : Statement .edgeFall := of_all_rows (by decide)
theorem edgeNone : Statement .edgeNone := of_all_rows (by decide)
theorem fallIdle : Statement .fallIdle := of_all_rows (by decide)
theorem fallFull : Statement .fallFull := of_all_rows (by decide)
theorem fallBit0 : Statement .fallBit0 := of_all_rows (by decide)
theorem fallBit1 : Statement .fallBit1 := of_all_rows (by decide)
theorem fallHdrOk : Statement .fallHdrOk := of_all_rows (by decide)
theorem fallHdrErr : Statement .fallHdrErr := of_all_rows (by decide)
theorem fallGap : Statement .fallGap := of_all_rows (by decide)
theorem isrEdgeEnd : Statement .isrEdgeEnd := of_all_rows (by decide)
theorem bootOk : Statement .bootOk := of_all_rows (by decide)
theorem bootHalt : Statement .bootHalt := of_all_rows (by decide)
theorem dispClear : Statement .dispClear := of_all_rows (by decide)
theorem dispWait : Statement .dispWait := of_all_rows (by decide)
theorem dispRearm : Statement .dispRearm := of_all_rows (by decide)
theorem dispDispatch : Statement .dispDispatch := of_all_rows (by decide)
theorem cmdPosA : Statement .cmdPosA := of_all_rows (by decide)
theorem cmdPosB : Statement .cmdPosB := of_all_rows (by decide)
theorem cmdPosC : Statement .cmdPosC := of_all_rows (by decide)
theorem cmdToggle : Statement .cmdToggle := of_all_rows (by decide)
theorem cmdOther (cw : CwWord) : Statement (.cmdOther cw) := by
  intro c h
  have hlt : cw < 2 ^ 32 := by
    simp only [Instr.wellFormed, Bool.and_eq_true, decide_eq_true_eq] at h
    exact h.1
  refine ⟨⟨.cmdOther, 32, 0x0, 0x0⟩, by decide, rfl, ?_⟩
  simp only [TableRow.holds, encode, Selector.number, Nat.and_zero, hlt, decide_true, Bool.true_and]
  rfl
theorem actEnter (p : Position) : Statement (.actEnter p) := of_all_rows (by cases p <;> decide)
theorem actExit (p : Position) : Statement (.actExit p) := of_all_rows (by cases p <;> decide)

end Sys2Proof.Laws.TableRow
end

