-- ==== Sys2Proof/Laws/Step.lean ====
section
/-! SUPPORT. What the schedule and `step` do, once each. -/

namespace Sys2Proof.Machine

/-- Choosing the next line changes the script and the counter of free choices only. -/
theorem afterPick_eq (s : State) :
    afterPick s = { s with script := (afterPick s).script, turn := (afterPick s).turn } := by
  unfold afterPick; split <;> rfl

/-- The enabling conditions read neither. -/
theorem enabled_afterPick (s : State) (m : Mnemonic) : enabled (afterPick s) m = enabled s m := by
  rw [afterPick_eq]; cases m <;> rfl

/-- A step that answers a next state ran the instruction decoded for its line. -/
theorem step_next {s t : State} (h : step s = .next t) :
    ∃ i, decode s.params (heldWord s (nextLine s)) = .instr i ∧ i.mnemonic = nextLine s ∧
      admitted s (nextLine s) = true ∧ exec i (afterPick s) = .next t := by
  unfold step at h
  split at h
  · rename_i ha
    split at h
    · rename_i i hd
      split at h
      · rename_i hm
        exact ⟨i, hd, hm, ha, h⟩
      · cases h
    · rename_i r _
      cases r <;> cases h
  · cases h

/-- The environment may always be chosen (R6 (1)). -/
theorem evRise_mem_choices (s : State) : .evRise ∈ choices s := by
  simp only [choices, List.mem_filter, Bool.and_eq_true]
  refine ⟨by decide, rfl, ?_⟩
  unfold admitted
  split <;> rfl

/-- A free choice is one of the agents' steps that may be taken. -/
theorem nextLine_mem_choices {s : State} (h : s.script = []) : nextLine s ∈ choices s := by
  have hl : 0 < (choices s).length := List.length_pos_of_mem (evRise_mem_choices s)
  simp only [nextLine, h]
  rw [List.getD_eq_getElem _ _ (Nat.mod_lt _ hl)]
  exact List.getElem_mem _

end Sys2Proof.Machine
end

