-- ==== Sys2Proof/Tests/Slice0.lean ====
section
/-! SUPPORT. Tests, their expected values from the vectors of spec/95_test_vectors.md (named in each comment) and the
examples of the rules, and a witness for the hypotheses of every statement. -/

namespace Sys2Proof.Tests
open Sys2Proof.Machine

/-- The default parameters with intact calibration data. -/
def dp : Params := Params.defaults true

/-- State B0 of spec/95, "booted and waiting". -/
def b0 : State := { State.resetWith dp with tmr := .tickCfg, eie := true, gie := true, fg := .l2 }

/-- B0 inside a frame with a falling edge latched, the interval `d` measured. -/
def falling (acc : Nat) (idx : Fin 33) (d : Nat) : State :=
  { b0 with done := false, acc := acc, idx := idx, tick := d, elatch := ⟨false, true⟩ }

/-- B0 at a dispatcher position with `acc` given. -/
def atPos (pos : FgPos) (acc : Nat) : State := { b0 with fg := pos, acc := acc }

/-- Position A's dwell, entered from B0. -/
def dwellA : State :=
  { b0 with fg := .dwell .a, tmr := .pwmCfg .a, eie := false, act := .pwm 750, obs := [.act (.pwm 750)] }

/-- What an outcome leaves, where it is a next state. -/
def leaves (o : Host.Outcome State Fault Refusal) : Option State :=
  match o with
  | .next t => some t
  | .fault _ => none
  | .refused _ => none

/-! ### Well-formedness: an ill-formed term for each check -/

theorem test_wf_refuses_empty_latch_entry : Instr.wellFormed dp (.isrEdgeBegin false false) = false := by decide
theorem test_wf_refuses_boot_ok_on_corrupt_data : Instr.wellFormed (Params.defaults false) .bootOk = false := by decide
theorem test_wf_refuses_boot_halt_on_good_data : Instr.wellFormed dp .bootHalt = false := by decide
theorem test_wf_refuses_table_code_as_other : Instr.wellFormed dp (.cmdOther 0x20DF00FF) = false := by decide
theorem test_wf_refuses_wide_word : Instr.wellFormed dp (.cmdOther (2 ^ 32)) = false := by decide

/-! ### Decoding: words written out from R40 to R48 -/

theorem test_decode_ev : [0b00, 0b01, 0b10, 0b11].map (fun w => decode dp (.ev w)) =
    [.reject .noEvent, .instr .evRise, .instr .evFall, .instr .evTick] := by decide
theorem test_decode_tk : [0b0, 0b1].map (fun w => decode dp (.tk w)) = [.reject .noTick, .instr .isrTick] := by decide
theorem test_decode_el : [0b00, 0b01, 0b10, 0b11].map (fun w => decode dp (.el w)) =
    [.reject .emptyLatch, .instr (.isrEdgeBegin false true), .instr (.isrEdgeBegin true false),
     .instr (.isrEdgeBegin true true)] := by decide
theorem test_decode_arm : [0b00, 0b01, 0b10, 0b11].map (fun w => decode dp (.arm w)) =
    [.instr .edgeNone, .instr .edgeFall, .instr .edgeRise, .instr .edgeDouble] := by decide
/-- The FS words of spec/95 L3: leader 10011, bits, V-DE-7's 01000, P3's 01010 and 00100, header 00101, P2's 00111. -/
theorem test_decode_fs :
    [0b10011, 0b11000, 0b01000, 0b01010, 0b00000, 0b00001, 0b00010, 0b00101, 0b00100, 0b00111].map
      (fun w => decode dp (.fs w)) =
    [.instr .fallIdle, .instr .fallIdle, .instr .fallFull, .instr .fallFull, .instr .fallBit0, .instr .fallBit0,
     .instr .fallBit1, .instr .fallHdrOk, .instr .fallHdrErr, .instr .fallGap] := by decide
theorem test_decode_ip : [0b0, 0b1].map (fun w => decode dp (.ip w)) = [.reject .noHandler, .instr .isrEdgeEnd] := by
  decide
theorem test_decode_fg_low : [0b0000, 0b0001, 0b0010, 0b0011, 0b0100, 0b0101, 0b0110, 0b0111].map
      (fun w => decode dp (.fg w)) =
    [.instr .bootOk, .instr .dispClear, .instr .dispWait, .instr .dispRearm, .instr .dispDispatch, .reject .halted,
     .reject .reservedPosition, .reject .reservedPosition] := by decide
theorem test_decode_fg_high : [0b1000, 0b1001, 0b1010, 0b1011, 0b1100, 0b1101, 0b1110, 0b1111].map
      (fun w => decode dp (.fg w)) =
    [.reject .reservedPosition, .instr (.actEnter .a), .instr (.actEnter .b), .instr (.actEnter .c),
     .reject .reservedPosition, .instr (.actExit .a), .instr (.actExit .b), .instr (.actExit .c)] := by decide
theorem test_decode_fg_boot_halt : decode (Params.defaults false) (.fg 0b0000) = .instr .bootHalt := by decide
/-- Codes bit by bit from spec/95 L1.1; V-DI-11's neighbour of `CODE_A`. -/
theorem test_decode_cw :
    [0b00100000110111110000000011111111, 0b00100000110111111000000001111111, 0b00100000110111110100000010111111,
     0b00100000110111111100000000111111, 0x20DF00FE, 2 ^ 32].map (fun v => decode dp (.cw v)) =
    [.instr .cmdPosA, .instr .cmdPosB, .instr .cmdPosC, .instr .cmdToggle, .instr (.cmdOther 0x20DF00FE),
     .reject .wideCommand] := by decide

/-- The last row of R43, `0011x`, is exactly what the other rows leave. -/
theorem test_fs_gap_row : ∀ w : FsWord, selectFall w = .gap ↔ w &&& 0b11110 = 0b00110 := by decide

/-! ### Table numbers and stored instructions -/

theorem test_table_number_ev : decodeTableWord 8 3 = some .evTick := by decide
theorem test_table_number_cw : decodeTableWord 32 0x20DFC03F = some .cmdToggle := by decide
theorem test_table_number_fg_by_width : decodeTableWord 4 0b1010 = some (.actEnter .b) := by decide
theorem test_table_number_no_row : decodeTableWord 8 0x20 = none := by decide
theorem test_stored_word_runs_first : ((leaves (step (State.reset.withFetchWord 32 0x20DF00FF))).map (·.fg)) =
    some (.act .a) := by decide
theorem test_stored_bit_runs_first : ((leaves (step (State.reset.withFetchWord 5 0b00010))).map (·.acc)) = some 1 := by
  decide

/-! ### Parameters and timing figures -/

theorem test_default_parameters_valid : (Params.defaults true).Valid ∧ (Params.defaults false).Valid := by decide
/-- R42, R7: 0.8, 2.0 and 6.0 ms over 100 µs. -/
theorem test_thresholds : [800, 2000, 6000].map (ticksOfUs dp) = [8, 20, 60] := by decide
/-- R80: 50 periods. -/
theorem test_dwell_periods : dwellPeriods dp = 50 := by decide
/-- R45: 3.75, 7.5 and 11.25 %. -/
theorem test_duty_cycles : [Position.a, .b, .c].map (fun q => dutyHundredths dp (widthOf dp q)) = [375, 750, 1125] := by
  decide
/-- R80: high for the first 750 µs of a period. -/
theorem test_waveform : [0, 749, 750, 20000].map (fun t => (ActPin.pwm 750).level dp t) = [true, true, false, true] := by
  decide

/-! ### Time Base -/

/-- V-TB-4 -/
theorem test_evTick_in_pwm : (leaves (exec .evTick dwellA)).map (·.tpend) = some false := by decide
/-- V-TB-7 -/
theorem test_evTick_before_boot : leaves (exec .evTick (State.resetWith dp)) = some (State.resetWith dp) := by decide
/-- V-TB-1 -/
theorem test_isrTick : (leaves (exec .isrTick { b0 with tick := 44, tpend := true })).map (fun t => (t.tick, t.tpend)) =
    some (45, false) := by decide
/-- V-TB-2 -/
theorem test_isrTick_wraps : (leaves (exec .isrTick { b0 with tick := 0xFFFF, tpend := true })).map (·.tick) =
    some 0 := by decide

/-! ### Protocol Decoder -/

/-- V-DE-1 -/
theorem test_evRise : (leaves (exec .evRise b0)).map (·.elatch) = some ⟨true, false⟩ := by decide
/-- R54's example -/
theorem test_evFall : (leaves (exec .evFall { b0 with elatch := ⟨true, false⟩ })).map (·.elatch) = some ⟨true, true⟩ := by
  decide
/-- R55's example -/
theorem test_isrEdgeBegin : (leaves (exec (.isrEdgeBegin true false)
    { b0 with elatch := ⟨true, false⟩, tick := 812 })).map (fun t => (t.isr, t.done, t.tick, t.elatch)) =
    some (.edgeSettle, false, 0, ⟨true, false⟩) := by decide
/-- V-IR-4 -/
theorem test_isrEdgeBegin_no_nesting : leaves (exec (.isrEdgeBegin true false)
    { b0 with elatch := ⟨true, false⟩, isr := .edgeSettle }) = none := by decide
/-- V-DE-11 -/
theorem test_edgeDouble : (leaves (exec .edgeDouble { falling 5 3 7 with elatch := ⟨true, true⟩ })).map
    (fun t => ((t.obs, t.ind, t.dtr.map Diag.code), (t.acc, t.idx, t.tick))) =
    some (([.ind true, .ind false, .ind true], true, [1]), (5, 3, 7)) := by decide
/-- V-DE-4 -/
theorem test_edgeRise : (leaves (exec .edgeRise { falling 0 12 6 with elatch := ⟨true, false⟩ })).map
    (fun t => (t.tick, t.done, t.idx)) = some (0, false, 12) := by decide
/-- R58's example -/
theorem test_edgeFall : (leaves (exec .edgeFall (falling 0x9 4 16))).map (fun t => (t.acc, t.idx)) = some (0x13, 5) := by
  decide
theorem test_edgeNone : leaves (exec .edgeNone b0) = some { b0 with isr := .edgeSettle } := by decide
/-- V-DE-6 -/
theorem test_fallIdle : (leaves (exec .edgeFall { b0 with tick := 30000, elatch := ⟨false, true⟩ })).map
    (fun t => (t.tick, t.acc, t.idx, t.done)) = some (30000, 0, 0, true) := by decide
/-- V-DE-7 -/
theorem test_fallFull : (leaves (exec .edgeFall (falling 0x20DF00FF 32 4))).map (fun t => (t.acc, t.idx)) =
    some (0x20DF00FF, 32) := by decide
/-- V-CL-2 -/
theorem test_fallBit0_upper_bound : (leaves (exec .edgeFall (falling 0x5 3 7))).map (fun t => (t.acc, t.idx)) =
    some (0xA, 4) := by decide
/-- V-DE-9 -/
theorem test_fallBit0_shifts_out : (leaves (exec .fallBit0 (falling 0x80000001 5 3))).map (fun t => (t.acc, t.idx)) =
    some (0x2, 6) := by decide
/-- V-CL-3 and V-CL-4 -/
theorem test_fallBit1_bounds : [8, 19].map (fun d => (leaves (exec .edgeFall (falling 0x5 3 d))).map
    (fun t => (t.acc, t.idx))) = [some (0xB, 4), some (0xB, 4)] := by decide
/-- V-DE-8 -/
theorem test_fallBit1_completes : (leaves (exec .fallBit1 (falling 0x106F807F 31 16))).map (fun t => (t.acc, t.idx)) =
    some (0x20DF00FF, 32) := by decide
/-- V-CL-10 and V-CL-11 -/
theorem test_fallHdrOk_bounds : [20, 59].map (fun d => (leaves (exec .edgeFall (falling 0 0 d))).map
    (fun t => (t.acc, t.idx, t.ind, t.dtr))) = [some (0, 0, false, []), some (0, 0, false, [])] := by decide
/-- V-DE-12 and V-CL-12 -/
theorem test_fallHdrErr : [falling 0x13 5 30, falling 0x13 0 20].map (fun s => (leaves (exec .edgeFall s)).map
    (fun t => (t.acc, t.obs, t.dtr.map Diag.code))) =
    [some (0x13, [.ind true], [2]), some (0x13, [.ind true], [2])] := by decide
/-- V-DE-13 and V-DE-14 -/
theorem test_fallHdrErr_variants :
    [{ dp with hdrErrReset := true }, { dp with hdrErrToggles := 2 }].map
      (fun p => (leaves (exec .fallHdrErr { falling 0x13 5 30 with params := p })).map
        (fun t => (t.acc, t.idx, t.ind, t.obs))) =
    [some (0, 0, true, [.ind true]), some (0x13, 5, false, [.ind true, .ind false])] := by decide
/-- V-CL-7 and V-CL-8 -/
theorem test_fallGap_aborts : [60, 65535].map (fun d => (leaves (exec .edgeFall (falling 0x5 3 d))).map
    (fun t => (t.acc, t.idx, t.done, t.dtr.map Diag.code))) = [some (0, 0, false, [3]), some (0, 0, false, [3])] := by
  decide
/-- V-CL-9 -/
theorem test_fallGap_ignored : (leaves (exec .fallGap { falling 0x5 3 60 with params := { dp with gapPolicy := .ignore } })).map
    (fun t => (t.acc, t.idx, t.dtr)) = some (0x5, 3, []) := by decide
/-- R67's example -/
theorem test_isrEdgeEnd : (leaves (exec .isrEdgeEnd { b0 with isr := .edgeSettle, elatch := ⟨true, true⟩ })).map
    (fun t => (t.elatch, t.isr)) = some (⟨false, false⟩, .none) := by decide

/-! ### Command Dispatcher -/

/-- V-DI-1 -/
theorem test_dispClear : (leaves (exec .dispClear (atPos .l1 0x20DFC03F))).map (fun t => (t.acc, t.fg)) =
    some (0, .l2) := by decide
/-- V-DE-17 -/
theorem test_dispClear_variant : (leaves (exec .dispClear { atPos .l1 7 with
    elatch := ⟨true, false⟩, params := { dp with looptopClear := true } })).map (fun t => (t.acc, t.elatch)) =
    some (0, ⟨false, false⟩) := by decide
/-- V-DI-2 and V-DI-3 -/
theorem test_dispWait : [31, 32].map (fun k => (leaves (exec .dispWait { b0 with idx := k })).map (·.fg)) =
    [some .l2, some .l3] := by decide
/-- V-DI-4 -/
theorem test_dispRearm : (leaves (exec .dispRearm { atPos .l3 0x20DF00FF with idx := 32, done := false })).map
    (fun t => (t.idx, t.done, t.fg, t.acc)) = some (0, true, .l4, 0x20DF00FF) := by decide
/-- V-DI-5 to V-DI-8, V-DI-10, V-DI-11 -/
theorem test_dispDispatch :
    [0x20DF00FF, 0x20DF807F, 0x20DF40BF, 0x20DFC03F, 0, 0x20DF00FE].map (fun v =>
      (leaves (exec .dispDispatch (atPos .l4 v))).map (fun t => (t.fg, t.ind, t.dtr.map Diag.code))) =
    [some (.act .a, false, []), some (.act .b, false, []), some (.act .c, false, []), some (.l1, true, []),
     some (.l1, false, [4]), some (.l1, false, [4])] := by decide
/-- V-DI-14 -/
theorem test_dispDispatch_wide : (leaves (exec .dispDispatch { atPos .l4 0x0120DF00FF with
    params := { dp with accW := 40 } })).map (·.fg) = some .l1 := by decide
/-- V-DI-12 -/
theorem test_cmdPosA_keeps_idx : (leaves (exec .cmdPosA { atPos .l4 0x20DF00FF with idx := 3, done := false })).map
    (fun t => (t.fg, t.idx)) = some (.act .a, 3) := by decide
theorem test_cmdPosB_needs_its_code : leaves (exec .cmdPosB (atPos .l4 0x20DF00FF)) = none := by decide
theorem test_cmdPosC_needs_its_code : leaves (exec .cmdPosC (atPos .l4 0x20DF807F)) = none := by decide
/-- V-DI-9 -/
theorem test_cmdToggle : (leaves (exec .cmdToggle { atPos .l4 0x20DFC03F with ind := true })).map
    (fun t => (t.ind, t.obs)) = some (false, [.ind false]) := by decide
/-- V-DI-13 -/
theorem test_cmdOther : (leaves (exec (.cmdOther 0x12345678) { atPos .l4 0x12345678 with idx := 2, done := false })).map
    (fun t => (t.idx, t.done, t.fg, t.dtr.map Diag.code)) = some (0, false, .l1, [4]) := by decide

/-! ### Actuator Driver and boot -/

/-- V-AC-2 -/
theorem test_actEnter : (leaves (exec (.actEnter .b) { atPos (.act .b) 0 with tpend := true, tick := 3 })).map
    (fun t => ((t.timer, t.tpend, t.tick), (t.eie, t.obs, t.fg))) =
    some ((⟨.pwm, 20000, 1500, false⟩, false, 3), (false, [.act (.pwm 1500)], .dwell .b)) := by decide
/-- V-AC-4 -/
theorem test_actExit : (leaves (exec (.actExit .a) { dwellA with elatch := ⟨true, false⟩, tick := 3 })).map
    (fun t => ((t.act, t.timer, t.elatch), (t.eie, t.fg, t.tick))) =
    some ((.low, ⟨.tick, 100, 0, true⟩, ⟨false, false⟩), (true, .l1, 3)) := by decide
/-- V-BO-1 and V-BO-4 -/
theorem test_bootOk : leaves (exec .bootOk { State.resetWith dp with elatch := ⟨true, false⟩ }) =
    some { b0 with fg := .l1 } := by decide
/-- V-BO-2 -/
theorem test_bootHalt : (leaves (exec .bootHalt (State.resetWith (Params.defaults false)))).map
    (fun t => (t.fg, t.dtr.map Diag.code, t.gie)) = some (.halt, [5], false) := by decide

/-! ### Witnesses: a state and operands that meet the hypotheses of each statement -/

/-- B0 has the invariant. -/
theorem b0_inv : StateInv b0 where
  valid := by decide
  tickWidth := by decide
  accWidth := by decide
  doneIdle := by decide
  gieBooted := by decide
  notBooted := by decide
  tickMode := fun _ _ => by decide
  pwmMode := fun p h => by cases h

/-- So has a dwell. -/
theorem dwellA_inv : StateInv dwellA where
  valid := by decide
  tickWidth := by decide
  accWidth := by decide
  doneIdle := by decide
  gieBooted := by decide
  notBooted := by decide
  tickMode := fun _ h => absurd rfl (h .a)
  pwmMode := fun p h => by cases h; decide

/-- B0 is quiet. -/
theorem b0_quiet : Quiet b0 where
  valid := by decide
  booted := by decide
  gie := by decide
  eie := by decide
  isr := by decide
  tmr := by decide
  tpend := by decide
  elatch := by decide

/-- Quiet is kept by what the scripts' hypotheses set. -/
theorem quiet_with (acc : Nat) (idx : Fin 33) (done : Bool) (script : List Mnemonic) :
    Quiet { b0 with acc := acc, idx := idx, done := done, script := script } :=
  ⟨b0_quiet.valid, b0_quiet.booted, b0_quiet.gie, b0_quiet.eie, b0_quiet.isr, b0_quiet.tmr, b0_quiet.tpend,
    b0_quiet.elatch⟩

theorem witness_DecodeOfEncodeIsTheInstruction : dp.Valid ∧ Instr.wellFormed dp (.cmdOther 5) = true := by decide
theorem witness_DecodedWordIsTheEncoding : dp.Valid ∧ decode dp (.fg 0b1011) = .instr (.actEnter .c) ∧
    decode dp (.cw (2 ^ 32 - 1)) = .instr (.cmdOther (2 ^ 32 - 1)) := by decide
/-- V-CL-1 to V-CL-12: both sides of each bound. -/
theorem witness_IntervalClassesAreHalfOpen : dp.Valid ∧
    [0, 7, 8, 19, 20, 59, 60].map (classOf dp) = [0b00, 0b00, 0b01, 0b01, 0b10, 0b10, 0b11] := by decide
theorem witness_CommandWordMatchesWholeCodes : dp.Valid ∧ 2 ^ 32 ≤ 2 ^ 32 + dp.codeA := by decide
theorem witness_StepRunsTheDecodedInstruction :
    (admitted { b0 with script := [.dispWait] } .dispWait = true ∧
      decode dp (heldWord { b0 with script := [.dispWait] } .dispWait) = .instr .dispWait ∧
      Instr.mnemonic .dispWait = nextLine { b0 with script := [.dispWait] }) ∧
    ({ b0 with script := [.dispWait] } : State).script = .dispWait :: [] ∧ b0.script = [] := by decide
theorem witness_FreeRunAlwaysMoves : b0.script = [] := by decide
theorem witness_ScriptLineTakenExactlyWhenEnabled :
    StateInv { b0 with script := [.dispWait] } ∧ ({ b0 with script := [.dispWait] } : State).script = .dispWait :: [] :=
  ⟨⟨b0_inv.valid, b0_inv.tickWidth, b0_inv.accWidth, b0_inv.doneIdle, b0_inv.gieBooted, b0_inv.notBooted, b0_inv.tickMode,
    b0_inv.pwmMode⟩, rfl⟩
theorem witness_PeriodEndSetsPending : (b0.fg ≠ .boot ∧ b0.fg ≠ .halt ∧ b0.timer.mode = .tick) ∧ dwellA.timer.mode = .pwm ∧
    (State.resetWith dp).fg = .boot ∧ (atPos .halt 0).fg = .halt := by decide
theorem witness_TickHandlerCountsModulo : b0.gie = true ∧ b0.isr = .none ∧ b0.timer.tie = true ∧
    ({ b0 with tpend := true, tick := 0xFFFF } : State).tpend = true := by decide
theorem witness_PendingTicksMerge : exec .evTick b0 = .next { b0 with tpend := true } := by rfl
theorem witness_ServedPeriodsCountModulo : Quiet { b0 with script := Script.tick 3 ++ [.dispWait] } ∧
    b0.tick < 2 ^ b0.params.tickW := ⟨quiet_with 0 0 true _, by decide⟩

/-- The gate of the edge handler is open in `falling`, for every operand. -/
theorem falling_gate (acc : Nat) (idx : Fin 33) (d : Nat) : (falling acc idx d).params.Valid ∧ (falling acc idx d).gie = true ∧
    (falling acc idx d).isr = .none ∧ (falling acc idx d).eie = true ∧ (falling acc idx d).elatch = ⟨false, true⟩ ∧
    (falling acc idx d).done = false := ⟨by show Params.Valid dp; decide, rfl, rfl, rfl, rfl, rfl⟩

/-- Both sides of the count's bound, where the rows meet. -/
theorem witness_FallingEdgeSelectorOrder : dp.idxMax = 32 ∧
    [(31, 7), (31, 60), (32, 7), (32, 60)].map (fun k => selectFall (readFs (falling 5 k.1 k.2))) =
      [.bit0, .gap, .full, .full] := by decide
theorem witness_EdgeEntryTakesTheLatchedArm : b0.gie = true ∧ b0.isr = .none ∧ b0.eie = true ∧
    ∀ l ∈ [(true, true), (true, false), (false, true)],
      ({ b0 with elatch := ⟨l.1, l.2⟩ } : State).elatch = ⟨l.1, l.2⟩ ∧ (l.1 || l.2) = true := by decide
theorem witness_DoubleEdgeBlinksAndKeepsDecodeState : b0.gie = true ∧ b0.isr = .none ∧ b0.eie = true ∧
    ({ b0 with elatch := ⟨true, true⟩ } : State).elatch = ⟨true, true⟩ := by decide
theorem witness_RisingEdgeStartsAnInterval : b0.gie = true ∧ b0.isr = .none ∧ b0.eie = true ∧
    ({ b0 with elatch := ⟨true, false⟩ } : State).elatch = ⟨true, false⟩ := by decide
theorem witness_FallingEdgeRunsTheFirstRow : dp.idxMax = 32 ∧ (falling 5 3 16).gie = true ∧ (falling 5 3 16).isr = .none ∧
    (falling 5 3 16).eie = true ∧ (falling 5 3 16).elatch = ⟨false, true⟩ := by decide
theorem witness_IdleFallIsIgnored : b0.gie = true ∧ b0.isr = .none ∧ b0.eie = true ∧ b0.done = true ∧
    ({ b0 with elatch := ⟨false, true⟩ } : State).elatch = ⟨false, true⟩ := by decide
theorem witness_FullFallIsIgnored : dp.idxMax = 32 ∧ (falling 5 32 4).idx.val = 32 ∧ (falling 5 32 4).done = false ∧
    (falling 5 32 4).gie = true ∧ (falling 5 32 4).isr = .none ∧ (falling 5 32 4).eie = true ∧
    (falling 5 32 4).elatch = ⟨false, true⟩ := by decide
theorem witness_ShortIntervalAppendsZero : dp.idxMax = 32 ∧ (falling 5 31 7).idx.val < 32 ∧ (falling 5 31 7).tick < dp.t1 ∧
    (falling 5 31 7).gie = true ∧ (falling 5 31 7).isr = .none ∧ (falling 5 31 7).eie = true ∧
    (falling 5 31 7).elatch = ⟨false, true⟩ ∧ (falling 5 31 7).done = false := by decide
theorem witness_LongIntervalAppendsOne : dp.idxMax = 32 ∧ (falling 5 31 8).idx.val < 32 ∧ dp.t1 ≤ (falling 5 31 8).tick ∧
    (falling 5 31 8).tick < dp.tHdr ∧ (falling 5 31 8).gie = true ∧ (falling 5 31 8).isr = .none ∧
    (falling 5 31 8).eie = true ∧ (falling 5 31 8).elatch = ⟨false, true⟩ ∧ (falling 5 31 8).done = false := by decide
theorem witness_HeaderAtFrameStartIsAccepted : ((falling 0 0 59).params.Valid ∧ (falling 0 0 59).gie = true ∧
    (falling 0 0 59).isr = .none ∧ (falling 0 0 59).eie = true ∧ (falling 0 0 59).elatch = ⟨false, true⟩ ∧
    (falling 0 0 59).done = false) ∧ dp.tHdr ≤ (falling 0 0 59).tick ∧ (falling 0 0 59).tick < dp.tGap ∧
    (falling 0 0 59).acc = 0 ∧ (falling 0 0 59).idx = 0 := ⟨falling_gate 0 0 59, by decide⟩
theorem witness_HeaderInMidFrameIsFlagged : ((falling 19 0 20).params.Valid ∧ (falling 19 0 20).gie = true ∧
    (falling 19 0 20).isr = .none ∧ (falling 19 0 20).eie = true ∧ (falling 19 0 20).elatch = ⟨false, true⟩ ∧
    (falling 19 0 20).done = false) ∧ (falling 19 0 20).idx.val < 32 ∧ dp.tHdr ≤ (falling 19 0 20).tick ∧
    (falling 19 0 20).tick < dp.tGap ∧ ((falling 19 0 20).acc ≠ 0 ∨ (falling 19 0 20).idx ≠ 0) :=
  ⟨falling_gate 19 0 20, by decide⟩
theorem witness_GapAbandonsTheFrame : ((falling 5 31 60).params.Valid ∧ (falling 5 31 60).gie = true ∧
    (falling 5 31 60).isr = .none ∧ (falling 5 31 60).eie = true ∧ (falling 5 31 60).elatch = ⟨false, true⟩ ∧
    (falling 5 31 60).done = false) ∧ (falling 5 31 60).idx.val < 32 ∧ dp.tGap ≤ (falling 5 31 60).tick ∧
    dp.gapPolicy = .abort := ⟨falling_gate 5 31 60, by decide⟩
/-- The second clause, `GAP_POLICY = ignore`. -/
theorem witness_GapAbandonsTheFrame_ignore :
    ({ falling 5 31 60 with params := { dp with gapPolicy := .ignore } } : State).params.Valid ∧
    ({ falling 5 31 60 with params := { dp with gapPolicy := .ignore } } : State).params.gapPolicy = .ignore := by decide
theorem witness_EmptyLatchArmChangesOnlyIsr : b0.elatch = ⟨false, false⟩ ∧ b0.gie = true ∧ b0.isr = .none ∧
    b0.eie = true := by decide
theorem witness_EdgeHandlerReturnClearsTheLatch : ({ b0 with isr := .edgeSettle } : State).isr = .edgeSettle := by decide
theorem witness_SettleWindowEdgesAreLost : exec .evRise { b0 with isr := .edgeSettle } =
    .next { b0 with isr := .edgeSettle, elatch := ⟨true, false⟩ } := by rfl
theorem witness_LoopTopClearsTheAccumulator : (atPos .l1 7).fg = .l1 ∧ (atPos .l1 7).isr = .none := by decide
theorem witness_WaitEndsAtThirtyTwoBits : dp.idxMax = 32 ∧ b0.fg = .l2 ∧ b0.isr = .none ∧
    ({ b0 with idx := 31 } : State).idx.val ≠ 32 ∧ ({ b0 with idx := 32 } : State).idx.val = 32 := by decide
theorem witness_RearmKeepsTheAccumulator : (atPos .l3 7).fg = .l3 ∧ (atPos .l3 7).isr = .none := by decide
theorem witness_DispatchTakesTheArmOfTheCode : ∀ v ∈ [dp.codeA, dp.codeB, dp.codeC, dp.codeT, 7, 0],
    (atPos .l4 v).fg = .l4 ∧ (atPos .l4 v).isr = .none ∧ (atPos .l4 v).acc = v := fun _ _ => ⟨rfl, rfl, rfl⟩
theorem witness_PositionCommandsInvokeTheDriver : ∀ v ∈ [dp.codeA, dp.codeB, dp.codeC],
    (atPos .l4 v).params.Valid ∧ (atPos .l4 v).fg = .l4 ∧ (atPos .l4 v).isr = .none ∧ (atPos .l4 v).acc = v :=
  fun _ _ => ⟨by show Params.Valid dp; decide, rfl, rfl, rfl⟩
theorem witness_ToggleCommandInvertsTheIndicator : (atPos .l4 dp.codeT).params.Valid ∧ (atPos .l4 dp.codeT).fg = .l4 ∧
    (atPos .l4 dp.codeT).isr = .none ∧ (atPos .l4 dp.codeT).acc = dp.codeT := by decide
theorem witness_UnrecognizedCommandIsSilent : (atPos .l4 0).fg = .l4 ∧ (atPos .l4 0).isr = .none ∧
    (atPos .l4 0).acc ∉ [dp.codeA, dp.codeB, dp.codeC, dp.codeT] := by decide
theorem witness_ForegroundFollowsTheLoop : exec .dispClear (atPos .l1 7) = .next (atPos .l2 0) ∧
    (atPos .l2 0).fg ≠ (atPos .l1 7).fg := ⟨rfl, by decide⟩
theorem witness_MotionStartsThePulse : ∀ p, (atPos (.act p) 7).fg = .act p ∧ (atPos (.act p) 7).isr = .none :=
  fun _ => ⟨rfl, rfl⟩
theorem witness_MotionEndsWithTheTimeBaseRestored : dwellA.fg = .dwell .a ∧ dwellA.isr = .none := by decide
theorem witness_OnlyTheDriverSwitchesTheTimer : StateInv dwellA ∧
    ∃ t, exec (.actExit .a) dwellA = .next t ∧ t.tmr ≠ dwellA.tmr := ⟨dwellA_inv, _, rfl, by decide⟩
theorem witness_DwellSuspendsTheDecoder : StateInv dwellA ∧ dwellA.fg = .dwell .a ∧
    exec .evRise dwellA = .next dwellA.latchRise := ⟨dwellA_inv, rfl, rfl⟩
theorem witness_PositionCodeGivesOneMotion : (atPos .l4 dp.codeC).params.Valid ∧ (atPos .l4 dp.codeC).fg = .l4 ∧
    (atPos .l4 dp.codeC).isr = .none ∧ (atPos .l4 dp.codeC).acc = dp.codeC ∧
    ({ atPos .l4 dp.codeC with script := [.dispDispatch, .actEnter, .actExit] } : State).script =
      [.dispDispatch, .actEnter, .actExit] ++ [] := by decide
theorem witness_BootEnablesTheBlock : (State.resetWith dp).fg = .boot ∧ (State.resetWith dp).params.calibValid = true ∧
    (State.resetWith dp).isr = .none := by decide
theorem witness_CorruptCalibrationHalts : (State.resetWith (Params.defaults false)).fg = .boot ∧
    (State.resetWith (Params.defaults false)).params.calibValid = false ∧
    (State.resetWith (Params.defaults false)).isr = .none := by decide
/-- A halted block whose script asks for a foreground step. -/
def halted : State := { State.resetWith (Params.defaults false) with fg := .halt, script := [.dispClear] }
theorem witness_HaltIsForEver : halted.fg = .halt ∧ halted.gie = false ∧ halted.isr = .none ∧
    exec .evFall halted = .next halted.latchFall ∧ halted.script = .dispClear :: [] ∧
    .dispClear ∈ Mnemonic.steps ∧ Mnemonic.isFg .dispClear = true :=
  ⟨rfl, rfl, rfl, rfl, rfl, by decide, rfl⟩
theorem witness_HandlersDoNotNest : ({ b0 with isr := .edgeSettle } : State).isr ≠ .none ∧
    exec .isrTick { b0 with tpend := true } = .next { b0 with tick := 1, tpend := false } := ⟨by decide, rfl⟩
theorem witness_HandlerOrderDecidesTheTick : b0.gie = true ∧ b0.isr = .none ∧ b0.eie = true ∧ b0.timer.tie = true ∧
    ({ b0 with tpend := true, elatch := ⟨true, false⟩ } : State).tpend = true ∧
    ({ b0 with tpend := true, elatch := ⟨true, false⟩ } : State).elatch = ⟨true, false⟩ ∧ 1 < 2 ^ dp.tickW := by decide
/-- Each frame clause has a step it speaks of. -/
theorem witness_HandlerStepsFrame : (leaves (exec .isrTick { b0 with tpend := true })).isSome = true ∧
    (leaves (exec .isrEdgeEnd { b0 with isr := .edgeSettle })).isSome = true ∧
    (leaves (exec .edgeNone b0)).isSome = true ∧
    (leaves (exec .edgeRise { b0 with elatch := ⟨true, false⟩ })).isSome = true ∧
    (leaves (exec .fallBit0 (falling 5 31 0))).isSome = true ∧
    (leaves (exec .edgeDouble { b0 with elatch := ⟨true, true⟩ })).isSome = true ∧
    (leaves (exec .fallHdrErr (falling 5 31 20))).isSome = true ∧
    (leaves (exec .fallGap (falling 5 31 60))).isSome = true := by decide
theorem witness_EdgeEntryFrame : (leaves (exec .edgeFall (falling 5 31 0))).isSome = true ∧
    (leaves (exec (.isrEdgeBegin false true) (falling 5 31 0))).isSome = true := by decide
theorem witness_ForegroundStepsFrame : (leaves (exec .dispClear (atPos .l1 7))).isSome = true ∧
    (leaves (exec .dispWait b0)).isSome = true ∧ (leaves (exec .dispRearm (atPos .l3 7))).isSome = true ∧
    (leaves (exec .cmdPosA (atPos .l4 dp.codeA))).isSome = true ∧
    (leaves (exec .cmdToggle (atPos .l4 dp.codeT))).isSome = true ∧
    (leaves (exec (.cmdOther 7) (atPos .l4 7))).isSome = true ∧
    (leaves (exec .dispDispatch (atPos .l4 7))).isSome = true ∧
    (leaves (exec (.actEnter .a) (atPos (.act .a) 7))).isSome = true ∧
    (leaves (exec (.actExit .a) dwellA)).isSome = true ∧
    (leaves (exec .bootOk (State.resetWith dp))).isSome = true ∧
    (leaves (exec .bootHalt (State.resetWith (Params.defaults false)))).isSome = true := by decide
theorem witness_OnlyTheListedStepsWrite : Instr.mnemonic (.isrEdgeBegin false true) ∈ Mnemonic.steps ∧
    (leaves (exec (.isrEdgeBegin false true) (falling 5 31 0))).isSome = true := by decide
theorem witness_InvariantHoldsAtReset : dp.Valid := by decide
theorem witness_StepKeepsTheInvariant : StateInv { b0 with script := [.evRise] } ∧
    step { b0 with script := [.evRise] } = .next { b0 with elatch := ⟨true, false⟩ } :=
  ⟨⟨b0_inv.valid, b0_inv.tickWidth, b0_inv.accWidth, b0_inv.doneIdle, b0_inv.gieBooted, b0_inv.notBooted, b0_inv.tickMode,
    b0_inv.pwmMode⟩, rfl⟩
/-- B0 is reachable: BOOT_OK, then DISP_CLEAR. -/
theorem b0_reachable : Reachable b0 :=
  .step .dispClear (s := { b0 with fg := .l1 })
    (.step .bootOk (.reset dp (by decide)) (by decide) rfl) (by decide) rfl
theorem witness_ReachableStatesMeetTheInvariants : Reachable b0 := b0_reachable
theorem witness_DecoderStatesAreExclusive : Reachable b0 ∧ b0.params.idxMax = 32 := ⟨b0_reachable, rfl⟩
theorem witness_TracesAreNeverRead : (leaves (step { b0 with script := [.dispWait] })).isSome = true ∧
    step { b0 with script := [.isrTick] } = .refused (.notEnabled .isrTick) ∧ step halted = .fault .halted :=
  ⟨by decide, rfl, rfl⟩
theorem witness_NecBitIsShiftedIn : Quiet { b0 with acc := 5, idx := 31, done := false, script := Script.nbit true ++ [] } ∧
    (31 : Fin 33).val < 32 ∧ dp.t1 = 8 ∧ dp.tHdr = 20 ∧ b0.tick < 2 ^ dp.tickW :=
  ⟨quiet_with 5 31 false _, by decide⟩
theorem witness_NecFrameDecodesToItsCode :
    Quiet { b0 with acc := 0, idx := 0, done := true, script := Script.frame 0x20DF00FF ++ [.dispWait] } ∧
    dp.t1 = 8 ∧ dp.tHdr = 20 ∧ dp.tGap = 60 ∧ b0.tick < 2 ^ dp.tickW ∧ 0x20DF00FF < 2 ^ 32 :=
  ⟨quiet_with 0 0 true _, by decide⟩

/-- A run that ends a dwell and then waits for a frame for ever. -/
def waitRun (start : State) : Nat → State
  | 0 => start
  | 1 => { b0 with fg := .l1, obs := [.act (.pwm 750), .act .low] }
  | _ => { b0 with obs := [.act (.pwm 750), .act .low] }

/-- Its steps. -/
def waitSteps : Nat → Instr
  | 0 => .actExit .a
  | 1 => .dispClear
  | _ => .dispWait

theorem waitRun_run : Run (waitRun dwellA) waitSteps where
  agent n := by
    match n with
    | 0 => decide
    | 1 => decide
    | _ + 2 => show Instr.mnemonic .dispWait ∈ Mnemonic.steps; decide
  moves n := by match n with | 0 => rfl | 1 => rfl | _ + 2 => rfl

theorem waitRun_fair : Fair (waitRun dwellA) waitSteps := by
  intro m hm he n h
  have only : ∀ m ∈ Mnemonic.steps, m.isEnv = false →
      enabled { b0 with obs := [.act (.pwm 750), .act .low] } m = true → m = .dispWait := by decide
  exact ⟨n + 2, by omega, (only m hm he (h (n + 2) (by omega))).symm⟩

theorem witness_FairRunEndsEveryDwell : StateInv (waitRun dwellA 0) ∧ Run (waitRun dwellA) waitSteps ∧
    Fair (waitRun dwellA) waitSteps ∧ (waitRun dwellA 0).fg = .dwell .a := ⟨dwellA_inv, waitRun_run, waitRun_fair, rfl⟩

/-- A run whose edge handler returns and which then waits for ever. -/
def returnRun : Nat → State
  | 0 => { b0 with isr := .edgeSettle, elatch := ⟨true, false⟩ }
  | _ => b0

/-- Its steps. -/
def returnSteps : Nat → Instr
  | 0 => .isrEdgeEnd
  | _ => .dispWait

theorem returnRun_run : Run returnRun returnSteps where
  agent n := by
    match n with
    | 0 => decide
    | _ + 1 => show Instr.mnemonic .dispWait ∈ Mnemonic.steps; decide
  moves n := by match n with | 0 => rfl | _ + 1 => rfl

theorem returnRun_fair : Fair returnRun returnSteps := by
  intro m hm he n h
  have only : ∀ m ∈ Mnemonic.steps, m.isEnv = false → enabled b0 m = true → m = .dispWait := by decide
  exact ⟨n + 1, by omega, (only m hm he (h (n + 1) (by omega))).symm⟩

theorem witness_FairRunReturnsFromTheHandler : Run returnRun returnSteps ∧ Fair returnRun returnSteps ∧
    (returnRun 0).isr = .edgeSettle := ⟨returnRun_run, returnRun_fair, rfl⟩

end Sys2Proof.Tests
end

section
/-! SUPPORT. When a line moves: a meaning answers a next state only where its row is enabled, and an enabled line
decodes to an instruction that answers one. -/

namespace Sys2Proof.Machine

variable {s t : State}

theorem fgAt_iff {pos : FgPos} : fgAt s pos = true ↔ s.fg = pos ∧ s.isr = .none := by simp [fgAt]

/-- Whatever answers a next state was enabled (R10). -/
theorem exec_enabled {i : Instr} (h : exec i s = .next t) : enabled s i.mnemonic = true := by
  cases i with
  | evRise => rfl
  | evFall => rfl
  | evTick => rfl
  | isrTick => exact (execIsrTick_next.mp h).1
  | isrEdgeBegin r f => exact (Bool.and_eq_true_iff.mp (execIsrEdgeBegin_enabled h)).1
  | edgeDouble => exact (execEdgeDouble_next.mp h).1
  | edgeRise => exact (execEdgeRise_next.mp h).1
  | edgeFall => exact execEdgeFall_enabled h
  | edgeNone => exact (execEdgeNone_next.mp h).1
  | fallIdle => exact (execFallIdle_next.mp h).1
  | fallFull => exact (execFallFull_next.mp h).1
  | fallBit0 => exact (execFallBit0_next.mp h).1
  | fallBit1 => exact (execFallBit1_next.mp h).1
  | fallHdrOk => exact (execFallHdrOk_next.mp h).1
  | fallHdrErr => exact (execFallHdrErr_next.mp h).1
  | fallGap => exact (execFallGap_next.mp h).1
  | isrEdgeEnd => exact (execIsrEdgeEnd_next.mp h).1
  | bootOk => exact (execBootOk_next.mp h).1
  | bootHalt => exact (execBootHalt_next.mp h).1
  | dispClear => exact (execDispClear_next.mp h).1
  | dispWait => exact (execDispWait_next.mp h).1
  | dispRearm => exact (execDispRearm_next.mp h).1
  | dispDispatch => exact execDispDispatch_enabled h
  | cmdPosA => exact (execCmdPosA_next.mp h).1
  | cmdPosB => exact (execCmdPosB_next.mp h).1
  | cmdPosC => exact (execCmdPosC_next.mp h).1
  | cmdToggle => exact (execCmdToggle_next.mp h).1
  | cmdOther cw => exact (Bool.and_eq_true_iff.mp (execCmdOther_next.mp h).1).1
  | actEnter p =>
    have hp := (execActEnter_next.mp h).1
    cases p <;> simp [Instr.mnemonic, enabled, hp]
  | actExit p =>
    have hp := (execActExit_next.mp h).1
    cases p <;> simp [Instr.mnemonic, enabled, hp]

/-- An enabled arm of EDGE_FALL answers a next state. -/
theorem fallArm_moves {a : FallArm} (h : fallArmEnabled s a = true) : ∃ t, exec a.instr s = .next t := by
  cases a
  · exact ⟨_, execFallIdle_next.mpr ⟨h, rfl⟩⟩
  · exact ⟨_, execFallFull_next.mpr ⟨h, rfl⟩⟩
  · exact ⟨_, execFallBit0_next.mpr ⟨h, rfl⟩⟩
  · exact ⟨_, execFallBit1_next.mpr ⟨h, rfl⟩⟩
  · exact ⟨_, execFallHdrOk_next.mpr ⟨h, rfl⟩⟩
  · exact ⟨_, execFallHdrErr_next.mpr ⟨h, rfl⟩⟩
  · exact ⟨_, execFallGap_next.mpr ⟨h, rfl⟩⟩

/-- An enabled EDGE_FALL answers a next state: its selector enables one of its arms. -/
theorem edgeFall_moves (h : enabled s .edgeFall = true) : ∃ t, exec .edgeFall s = .next t := by
  have harm : fallArmEnabled s (selectFall (readFs s)) = true := Bool.and_eq_true_iff.mpr ⟨h, beq_self_eq_true _⟩
  obtain ⟨t, ht⟩ := fallArm_moves harm
  exact ⟨t, (execEdgeFall_eq h).trans ht⟩

/-- An enabled arm of ISR_EDGE_BEGIN answers a next state. -/
theorem edgeArm_moves {a : EdgeArm} (h : edgeArmEnabled s a = true) : ∃ t, exec a.instr s = .next t := by
  cases a
  · exact ⟨_, execEdgeDouble_next.mpr ⟨h, rfl⟩⟩
  · exact ⟨_, execEdgeRise_next.mpr ⟨h, rfl⟩⟩
  · exact edgeFall_moves h
  · exact ⟨_, execEdgeNone_next.mpr ⟨h, rfl⟩⟩

/-- An enabled ISR_EDGE_BEGIN answers a next state at the latch the state holds. -/
theorem isrEdgeBegin_moves (h : enabled s .isrEdgeBegin = true) :
    ∃ t, exec (.isrEdgeBegin s.elatch.r s.elatch.f) s = .next t := by
  have hgate : edgeGate s = true := (Bool.and_eq_true_iff.mp h).1
  have harm : edgeArmEnabled s (selectEdge (readEl s)) = true :=
    Bool.and_eq_true_iff.mpr ⟨hgate, beq_self_eq_true _⟩
  obtain ⟨t, ht⟩ := edgeArm_moves harm
  have hlatch : (enabled s .isrEdgeBegin && s.elatch == ⟨s.elatch.r, s.elatch.f⟩) = true :=
    Bool.and_eq_true_iff.mpr ⟨h, beq_self_eq_true _⟩
  exact ⟨t, (execIsrEdgeBegin_eq hlatch).trans ht⟩

/-- An enabled arm of DISP_DISPATCH answers a next state at the word in `acc`. -/
theorem cmdArm_moves {a : CmdArm} (h : cmdArmEnabled s a = true) : ∃ t, exec (a.instr s.acc) s = .next t := by
  cases a
  · exact ⟨_, execCmdPosA_next.mpr ⟨h, rfl⟩⟩
  · exact ⟨_, execCmdPosB_next.mpr ⟨h, rfl⟩⟩
  · exact ⟨_, execCmdPosC_next.mpr ⟨h, rfl⟩⟩
  · exact ⟨_, execCmdToggle_next.mpr ⟨h, rfl⟩⟩
  · exact ⟨_, execCmdOther_next.mpr ⟨Bool.and_eq_true_iff.mpr ⟨h, beq_self_eq_true _⟩, rfl⟩⟩

/-- An enabled DISP_DISPATCH answers a next state: `acc` enables one of its arms. -/
theorem dispDispatch_moves (h : enabled s .dispDispatch = true) : ∃ t, exec .dispDispatch s = .next t := by
  have harm : cmdArmEnabled s (selectCmd s.params s.acc) = true := Bool.and_eq_true_iff.mpr ⟨h, beq_self_eq_true _⟩
  obtain ⟨t, ht⟩ := cmdArm_moves harm
  exact ⟨t, (execDispDispatch_eq h).trans ht⟩

/-- What a sequencer position decodes to (R46). -/
def decodedAt (p : Params) : FgPos → Decoded
  | .boot => .instr (if p.calibValid then .bootOk else .bootHalt)
  | .l1 => .instr .dispClear
  | .l2 => .instr .dispWait
  | .l3 => .instr .dispRearm
  | .l4 => .instr .dispDispatch
  | .halt => .reject .halted
  | .act q => .instr (.actEnter q)
  | .dwell q => .instr (.actExit q)

theorem decode_readFg (s : State) : decode s.params (.fg (readFg s)) = decodedAt s.params s.fg := by
  unfold readFg
  cases s.fg with
  | act q => cases q <;> rfl
  | dwell q => cases q <;> rfl
  | _ => rfl

/-- A pending tick decodes to its handler (R48). -/
theorem decode_readTk (h : s.tpend = true) : decode s.params (.tk (readTk s)) = .instr .isrTick := by
  rw [readTk, h]; rfl

/-- A handler in progress decodes to its return (R48). -/
theorem decode_readIp (h : s.isr = .edgeSettle) : decode s.params (.ip (readIp s)) = .instr .isrEdgeEnd := by
  rw [readIp, h]; rfl

/-- A pending latch decodes to the entry that reads it (R41). -/
theorem decode_readEl (h : s.edgePending = true) :
    decode s.params (.el (readEl s)) = .instr (.isrEdgeBegin s.elatch.r s.elatch.f) := by
  have bits : ∀ r f : Bool, (elWord r f).getLsbD 1 = r ∧ (elWord r f).getLsbD 0 = f := by decide
  have hne : ¬ readEl s = 0b00 := fun h0 => Bool.noConfusion (h.symm.trans ((readEl_eq_zero s).mp h0))
  obtain ⟨hr, hf⟩ := bits s.elatch.r s.elatch.f
  simp only [decode, if_neg hne]
  rw [readEl, hr, hf]

/-- The line `m` can be run in `s`: its word decodes to an instruction of its name, which answers a next state. -/
def LineMoves (s : State) (m : Mnemonic) : Prop :=
  ∃ i t, decode s.params (heldWord s m) = .instr i ∧ i.mnemonic = m ∧ exec i s = .next t

theorem lineMoves_of_fallArm {a : FallArm} (h : fallArmEnabled s a = true) : LineMoves s a.instr.mnemonic := by
  obtain ⟨t, ht⟩ := fallArm_moves h
  have hsel : selectFall (readFs s) = a := eq_of_beq (Bool.and_eq_true_iff.mp h).2
  have hword : heldWord s a.instr.mnemonic = .fs (readFs s) := by cases a <;> rfl
  exact ⟨a.instr, t, by rw [hword, decode, hsel], rfl, ht⟩

theorem lineMoves_of_edgeArm {a : EdgeArm} (h : edgeArmEnabled s a = true) : LineMoves s a.instr.mnemonic := by
  obtain ⟨t, ht⟩ := edgeArm_moves h
  have hsel : selectEdge (readEl s) = a := eq_of_beq (Bool.and_eq_true_iff.mp h).2
  have hword : heldWord s a.instr.mnemonic = .arm (readEl s) := by cases a <;> rfl
  exact ⟨a.instr, t, by rw [hword, decode, hsel], rfl, ht⟩

theorem lineMoves_of_cmdArm {a : CmdArm} (hacc : s.acc < 2 ^ s.params.accW) (h : cmdArmEnabled s a = true) :
    LineMoves s (a.instr s.acc).mnemonic := by
  obtain ⟨t, ht⟩ := cmdArm_moves h
  have hsel : selectCmd s.params s.acc = a := eq_of_beq (Bool.and_eq_true_iff.mp h).2
  have hword : heldWord s (a.instr s.acc).mnemonic = .cw s.acc := by cases a <;> rfl
  exact ⟨a.instr s.acc, t, by rw [hword, decode, if_pos hacc, hsel], rfl, ht⟩

/-- A foreground line runs the step its position decodes to. -/
theorem lineMoves_of_fg {m : Mnemonic} {i : Instr} {pos : FgPos} (hword : heldWord s m = .fg (readFg s))
    (h : fgAt s pos = true) (hi : decodedAt s.params pos = .instr i) (hm : i.mnemonic = m)
    (ht : ∃ t, exec i s = .next t) : LineMoves s m := by
  obtain ⟨t, ht⟩ := ht
  exact ⟨i, t, by rw [hword, decode_readFg, (fgAt_iff.mp h).1, hi], hm, ht⟩

theorem lineMoves_actEnter {p : Position} (h : fgAt s (.act p) = true) : LineMoves s .actEnter :=
  lineMoves_of_fg rfl h rfl rfl ⟨_, execActEnter_next.mpr ⟨h, rfl⟩⟩

theorem lineMoves_actExit {p : Position} (h : fgAt s (.dwell p) = true) : LineMoves s .actExit :=
  lineMoves_of_fg rfl h rfl rfl ⟨_, execActExit_next.mpr ⟨h, rfl⟩⟩

/-- Every enabled line can be run. Only the rows named by a command arm need `acc` to be a command word (R44), and the
agents' steps are none of them. -/
theorem enabled_lineMoves {m : Mnemonic} (hacc : m ∈ Mnemonic.steps ∨ s.acc < 2 ^ s.params.accW)
    (h : enabled s m = true) : LineMoves s m := by
  cases m with
  | evRise => exact ⟨.evRise, _, rfl, rfl, rfl⟩
  | evFall => exact ⟨.evFall, _, rfl, rfl, rfl⟩
  | evTick => exact ⟨.evTick, _, rfl, rfl, rfl⟩
  | isrTick => exact ⟨_, _, decode_readTk (Bool.and_eq_true_iff.mp h).2, rfl, execIsrTick_next.mpr ⟨h, rfl⟩⟩
  | isrEdgeBegin =>
    obtain ⟨t, ht⟩ := isrEdgeBegin_moves h
    exact ⟨_, t, decode_readEl (Bool.and_eq_true_iff.mp h).2, rfl, ht⟩
  | edgeDouble => exact lineMoves_of_edgeArm (a := .double) h
  | edgeRise => exact lineMoves_of_edgeArm (a := .rise) h
  | edgeFall => exact lineMoves_of_edgeArm (a := .fall) h
  | edgeNone => exact lineMoves_of_edgeArm (a := .none) h
  | fallIdle => exact lineMoves_of_fallArm (a := .idle) h
  | fallFull => exact lineMoves_of_fallArm (a := .full) h
  | fallBit0 => exact lineMoves_of_fallArm (a := .bit0) h
  | fallBit1 => exact lineMoves_of_fallArm (a := .bit1) h
  | fallHdrOk => exact lineMoves_of_fallArm (a := .hdrOk) h
  | fallHdrErr => exact lineMoves_of_fallArm (a := .hdrErr) h
  | fallGap => exact lineMoves_of_fallArm (a := .gap) h
  | isrEdgeEnd => exact ⟨_, _, decode_readIp (eq_of_beq h), rfl, execIsrEdgeEnd_next.mpr ⟨h, rfl⟩⟩
  | bootOk =>
    obtain ⟨hfg, hv⟩ := Bool.and_eq_true_iff.mp h
    have hi : decodedAt s.params .boot = .instr .bootOk := by simp [decodedAt, hv]
    exact lineMoves_of_fg rfl hfg hi rfl ⟨_, execBootOk_next.mpr ⟨h, rfl⟩⟩
  | bootHalt =>
    obtain ⟨hfg, hv⟩ := Bool.and_eq_true_iff.mp h
    have hi : decodedAt s.params .boot = .instr .bootHalt := by simpa [decodedAt] using hv
    exact lineMoves_of_fg rfl hfg hi rfl ⟨_, execBootHalt_next.mpr ⟨h, rfl⟩⟩
  | dispClear => exact lineMoves_of_fg rfl h rfl rfl ⟨_, execDispClear_next.mpr ⟨h, rfl⟩⟩
  | dispWait => exact lineMoves_of_fg rfl h rfl rfl ⟨_, execDispWait_next.mpr ⟨h, rfl⟩⟩
  | dispRearm => exact lineMoves_of_fg rfl h rfl rfl ⟨_, execDispRearm_next.mpr ⟨h, rfl⟩⟩
  | dispDispatch => exact lineMoves_of_fg rfl h rfl rfl (dispDispatch_moves h)
  | cmdPosA => exact lineMoves_of_cmdArm (a := .posA) (hacc.resolve_left (by decide)) h
  | cmdPosB => exact lineMoves_of_cmdArm (a := .posB) (hacc.resolve_left (by decide)) h
  | cmdPosC => exact lineMoves_of_cmdArm (a := .posC) (hacc.resolve_left (by decide)) h
  | cmdToggle => exact lineMoves_of_cmdArm (a := .toggle) (hacc.resolve_left (by decide)) h
  | cmdOther => exact lineMoves_of_cmdArm (a := .other) (hacc.resolve_left (by decide)) h
  | actEnter =>
    simp only [enabled, Bool.or_eq_true] at h
    obtain (ha | hb) | hc := h
    · exact lineMoves_actEnter ha
    · exact lineMoves_actEnter hb
    · exact lineMoves_actEnter hc
  | actExit =>
    simp only [enabled, Bool.or_eq_true] at h
    obtain (ha | hb) | hc := h
    · exact lineMoves_actExit ha
    · exact lineMoves_actExit hb
    · exact lineMoves_actExit hc

end Sys2Proof.Machine
end

section
/-! SUPPORT. The schedule: what the next step is and when it is taken. -/

namespace Sys2Proof.Machine

variable {s : State}

@[simp] theorem afterPick_params (s : State) : (afterPick s).params = s.params := by rw [afterPick_eq]

/-- No word reads the script or the counter of free choices. -/
@[simp] theorem heldWord_afterPick (s : State) (m : Mnemonic) : heldWord (afterPick s) m = heldWord s m := by
  rw [afterPick_eq]; cases m <;> rfl

theorem nextLine_cons {m : Mnemonic} {rest : List Mnemonic} (h : s.script = m :: rest) : nextLine s = m := by
  simp only [nextLine, h]

theorem afterPick_cons {m : Mnemonic} {rest : List Mnemonic} (h : s.script = m :: rest) :
    afterPick s = { s with script := rest } := by
  simp only [afterPick, h]

theorem afterPick_nil (h : s.script = []) : afterPick s = { s with turn := s.turn + 1 } := by
  simp only [afterPick, h]

/-- What a free choice takes is an agent's step, enabled and admitted. -/
theorem mem_choices {m : Mnemonic} :
    m ∈ choices s ↔ m ∈ Mnemonic.steps ∧ enabled s m = true ∧ admitted s m = true := by
  simp only [choices, List.mem_filter, Bool.and_eq_true]

/-- An admitted line whose word decodes to an instruction of its name runs that instruction. -/
theorem step_of_decode {i : Instr} (ha : admitted s (nextLine s) = true)
    (hd : decode s.params (heldWord s (nextLine s)) = .instr i) (hm : i.mnemonic = nextLine s) :
    step s = exec i (afterPick s) := by
  simp only [step, ha, hd, hm, if_true]

/-- An enabled and admitted next line is taken. -/
theorem step_moves_of_enabled (hacc : nextLine s ∈ Mnemonic.steps ∨ s.acc < 2 ^ s.params.accW)
    (he : enabled s (nextLine s) = true) (ha : admitted s (nextLine s) = true) : ∃ t, step s = .next t := by
  have hacc' : nextLine s ∈ Mnemonic.steps ∨ (afterPick s).acc < 2 ^ (afterPick s).params.accW := by
    rw [afterPick_eq]; exact hacc
  obtain ⟨i, t, hd, hm, ht⟩ := enabled_lineMoves hacc' ((enabled_afterPick s _).trans he)
  rw [afterPick_params, heldWord_afterPick] at hd
  exact ⟨t, (step_of_decode ha hd hm).trans ht⟩

/-- A step that answers a next state was enabled and admitted (R10, R88). -/
theorem enabled_admitted_of_step {t : State} (h : step s = .next t) :
    enabled s (nextLine s) = true ∧ admitted s (nextLine s) = true := by
  obtain ⟨i, _, hm, ha, ht⟩ := step_next h
  exact ⟨by rw [← enabled_afterPick, ← hm]; exact exec_enabled ht, ha⟩

/-- Settles O8: the free choice falls on an enabled and admitted agent's step. -/
theorem freeRunAlwaysMoves : Obligations.FreeRunAlwaysMoves := by
  intro s hs
  obtain ⟨hsteps, he, ha⟩ := mem_choices.mp (nextLine_mem_choices hs)
  exact step_moves_of_enabled (.inl hsteps) he ha

/-- Settles O9: what is taken was enabled, and the invariant makes `acc` a command word, so that every enabled line
decodes to its own row. -/
theorem scriptLineTakenExactlyWhenEnabled : Obligations.ScriptLineTakenExactlyWhenEnabled := by
  intro s m rest hinv hs
  obtain rfl : nextLine s = m := nextLine_cons hs
  exact ⟨fun ⟨_, ht⟩ => enabled_admitted_of_step ht,
    fun ⟨he, ha⟩ => step_moves_of_enabled (.inr hinv.accWidth) he ha⟩

/-- Settles O7, clause by clause: one step, the head of a script, a free choice. -/
theorem stepRunsTheDecodedInstruction : Obligations.StepRunsTheDecodedInstruction :=
  ⟨fun _ _ ha hd hm => step_of_decode ha hd hm,
    fun _ _ _ hs => ⟨nextLine_cons hs, afterPick_cons hs⟩,
    fun _ hs => ⟨afterPick_nil hs, (mem_choices.mp (nextLine_mem_choices hs)).1⟩⟩

end Sys2Proof.Machine
end

section
/-! SUPPORT. Served timer periods: EV_TICK, then ISR_TICK, from a quiet state. -/

namespace Sys2Proof.Machine

variable {s t : State} {rest : List Mnemonic}

@[simp] theorem runSteps_zero (s : State) : runSteps 0 s = .next s := rfl

theorem core_run_succ (M : Host.Core) {s t : M.State} (h : M.step s = .next t) (n : Nat) :
    M.run (n + 1) s = M.run n t := by
  simp only [Host.Core.run, h]

theorem runSteps_succ (h : step s = .next t) (n : Nat) : runSteps (n + 1) s = runSteps n t :=
  core_run_succ Sys2Proof.core h n

/-- `IRQ_ORDER` never holds the environment back (R88 orders handlers only). -/
theorem admitted_of_isEnv {m : Mnemonic} (h : m.isEnv = true) : admitted s m = true := by
  cases m with
  | evRise | evFall | evTick => unfold admitted; split <;> rfl
  | _ => cases h

/-- With no edge pending no order holds the tick handler back (R88). -/
theorem admitted_isrTick (h : s.edgePending = false) : admitted s .isrTick = true := by
  unfold admitted
  split
  · rfl
  · rfl
  · simp [edgeEnabled, h]

theorem Quiet.edgePending (h : Quiet s) : s.edgePending = false := by
  simp [State.edgePending, h.elatch]

theorem Quiet.timer (h : Quiet s) : s.timer = ⟨.tick, s.params.tickUs, 0, true⟩ := timer_eq h.tmr

/-- Being quiet does not read `tick` or the script. -/
theorem Quiet.with_tick_script (h : Quiet s) (tick : Nat) (script : List Mnemonic) :
    Quiet { s with tick := tick, script := script } :=
  ⟨h.valid, h.booted, h.gie, h.eie, h.isr, h.tmr, h.tpend, h.elatch⟩

/-- A period that ends in a quiet state leaves a pending tick (R50). -/
theorem Quiet.exec_evTick (h : Quiet s) : exec .evTick s = .next (s.setPending true) :=
  execEvTick_next.mpr (if_pos (by simp [h.booted, h.timer]))

/-- With a tick pending on a quiet state the tick handler is enabled (R51). -/
theorem Quiet.tickEnabled (h : Quiet s) : tickEnabled (s.setPending true) = true := by
  have htie : (s.setPending true).timer.tie = true := congrArg TimerRecord.tie h.timer
  simp [Machine.tickEnabled, h.gie, h.isr, htie]

/-- An EV_TICK line runs EV_TICK on the state past it. -/
theorem step_evTick (hs : s.script = .evTick :: rest) : step s = exec .evTick { s with script := rest } := by
  rw [← afterPick_cons hs]
  have hline := nextLine_cons hs
  exact step_of_decode (by rw [hline]; exact admitted_of_isEnv rfl) (by rw [hline]; rfl) hline.symm

/-- An ISR_TICK line with no edge pending counts the tick (R51). -/
theorem step_isrTick (hs : s.script = .isrTick :: rest) (he : tickEnabled s = true) (hl : s.edgePending = false) :
    step s = .next { s with tick := (s.tick + 1) % 2 ^ s.params.tickW, tpend := false, script := rest } := by
  have hline := nextLine_cons hs
  have hd : decode s.params (heldWord s (nextLine s)) = .instr .isrTick := by
    rw [hline]; exact decode_readTk (Bool.and_eq_true_iff.mp he).2
  rw [step_of_decode (by rw [hline]; exact admitted_isrTick hl) hd hline.symm, afterPick_cons hs]
  exact execIsrTick_next.mpr ⟨he, rfl⟩

/-- One served period counts one tick and changes nothing else (R51, R103). -/
theorem runSteps_served_period (hq : Quiet s) (hs : s.script = .evTick :: .isrTick :: rest) (n : Nat) :
    runSteps (n + 2) s = runSteps n { s with tick := (s.tick + 1) % 2 ^ s.params.tickW, script := rest } := by
  have hq' : Quiet { s with script := .isrTick :: rest } := hq.with_tick_script s.tick _
  have hpend : step s = .next (({ s with script := .isrTick :: rest } : State).setPending true) :=
    (step_evTick hs).trans hq'.exec_evTick
  have hserve := step_isrTick (s := ({ s with script := .isrTick :: rest } : State).setPending true) (rest := rest)
    rfl hq'.tickEnabled hq'.edgePending
  rw [runSteps_succ hpend, runSteps_succ hserve, ← hq.tpend]
  rfl

/-- Settles O14, by induction on the number of periods: each is served from a quiet state and leaves one. -/
theorem servedPeriodsCountModulo : Obligations.ServedPeriodsCountModulo := by
  intro n
  induction n with
  | zero =>
    intro s rest _ htick hs
    have hrest : rest = s.script := hs.symm
    simp only [Nat.mul_zero, runSteps_zero, Nat.add_zero, Nat.mod_eq_of_lt htick, hrest]
  | succ n ih =>
    intro s rest hq _ hs
    calc runSteps (2 * (n + 1)) s
      _ = runSteps (2 * n) { s with
            tick := (s.tick + 1) % 2 ^ s.params.tickW, script := Script.tick n ++ rest } :=
          runSteps_served_period hq hs (2 * n)
      _ = .next { s with
            tick := ((s.tick + 1) % 2 ^ s.params.tickW + n) % 2 ^ s.params.tickW, script := rest } :=
          ih _ rest (hq.with_tick_script _ _) (Nat.mod_lt _ (Nat.two_pow_pos _)) rfl
      _ = .next { s with tick := (s.tick + (n + 1)) % 2 ^ s.params.tickW, script := rest } := by
          rw [Nat.mod_add_mod, Nat.add_assoc, Nat.add_comm 1 n]

end Sys2Proof.Machine
end

section
/-! SUPPORT. The state invariant: at reset, under each operation, over each step, in each reachable state. -/

namespace Sys2Proof.Machine

variable {s t : State}

theorem defaults_valid (c : Bool) : (Params.defaults c).Valid := by revert c; decide

/-- The invariant holds at reset: every width and index is 0, and the sequencer stands at BOOT (R27). -/
theorem resetWith_inv {p : Params} (hp : p.Valid) : StateInv (State.resetWith p) where
  valid := hp
  tickWidth := Nat.two_pow_pos _
  accWidth := Nat.two_pow_pos _
  doneIdle := fun _ => rfl
  gieBooted := rfl
  notBooted := fun _ => ⟨rfl, rfl, rfl⟩
  tickMode := nofun
  pwmMode := nofun

/-- Settles O42: the table holds by the definition of reset, `tmr` being whatever it names there. -/
theorem resetHoldsTheTable : Obligations.ResetHoldsTheTable :=
  fun p => ⟨(State.resetWith p).tmr, rfl⟩

/-- Settles O52: the defaults are valid whatever `CALIB_VALID` is. -/
theorem invariantHoldsAtReset : Obligations.InvariantHoldsAtReset :=
  ⟨fun _ => resetWith_inv, resetWith_inv (defaults_valid _)⟩

/-- The positions of the main loop: BOOT_OK has run, and no dwell is in progress. -/
def FgPos.inLoop : FgPos → Bool
  | .l1 | .l2 | .l3 | .l4 | .act _ => true
  | .boot | .halt | .dwell _ => false

theorem inLoop_iff : s.fg.inLoop = true ↔ s.booted = true ∧ ∀ p, s.fg ≠ .dwell p := by
  unfold State.booted
  cases s.fg <;> simp [FgPos.inLoop]

theorem inLoop_of_fgAt {pos : FgPos} (hpos : pos.inLoop = true) (h : fgAt s pos = true) : s.fg.inLoop = true :=
  (fgAt_iff.mp h).1.symm ▸ hpos

namespace StateInv

/-- Where edges are enabled there is no dwell (R82). -/
theorem not_dwell_of_eie (h : StateInv s) (he : s.eie = true) (p : Position) : s.fg ≠ .dwell p := by
  intro hd
  obtain ⟨_, hoff, _⟩ := h.pwmMode p hd
  exact Bool.noConfusion (he.symm.trans hoff)

/-- In TickMode there is no dwell (R19). -/
theorem not_dwell_of_tickMode (h : StateInv s) (hm : s.timer.mode = .tick) (p : Position) : s.fg ≠ .dwell p := by
  intro hd
  obtain ⟨htmr, _⟩ := h.pwmMode p hd
  rw [timer_eq htmr] at hm
  cases hm

/-! The elements the invariant does not read. -/

theorem latchRise (h : StateInv s) : StateInv s.latchRise := { h with }
theorem latchFall (h : StateInv s) : StateInv s.latchFall := { h with }
theorem clearLatch (h : StateInv s) : StateInv s.clearLatch := { h with }
theorem diag (h : StateInv s) (d : Diag) : StateInv (s.diag d) := { h with }
theorem toggle (h : StateInv s) : StateInv s.toggle := { h with }
theorem afterPick (h : StateInv s) : StateInv (afterPick s) := by rw [afterPick_eq]; exact { h with }

theorem toggles (h : StateInv s) (n : Nat) : StateInv (s.toggles n) := by
  rw [State.toggles_eq]; exact { h with }

theorem loopTop (h : StateInv s) : StateInv (loopTop s) := by
  rw [loopTop_eq]; exact { h with }

/-! The decode state: each value written keeps its width, and the Bit Index moves inside a frame only. -/

theorem countTick (h : StateInv s) : StateInv s.countTick := { h with tickWidth := truncTo_lt _ _ }
theorem zeroTick (h : StateInv s) : StateInv s.zeroTick := { h with tickWidth := Nat.two_pow_pos _ }
theorem shiftIn (h : StateInv s) (b : Bool) : StateInv (s.shiftIn b) := { h with accWidth := truncTo_lt _ _ }
theorem clearAcc (h : StateInv s) : StateInv s.clearAcc := { h with accWidth := Nat.two_pow_pos _ }
theorem clearIdx (h : StateInv s) : StateInv s.clearIdx := { h with doneIdle := fun _ => rfl }
theorem clearFrame (h : StateInv s) : StateInv s.clearFrame := h.clearAcc.clearIdx

theorem countBit (h : StateInv s) (hd : s.done = false) : StateInv s.countBit :=
  { h with doneIdle := fun hd' => Bool.noConfusion (hd.symm.trans hd') }

theorem setDone {b : Bool} (h : StateInv s) (hb : b = true → s.idx = 0) : StateInv (s.setDone b) :=
  { h with doneIdle := hb }

theorem afterHdrErr (h : StateInv s) : StateInv (afterHdrErr s) := by
  unfold Machine.afterHdrErr
  split
  · exact h.clearFrame
  · exact h

theorem afterGap (h : StateInv s) : StateInv (afterGap s) := by
  unfold Machine.afterGap
  split
  · exact h.clearFrame.diag _
  · exact h

/-! The handlers and the pending tick. -/

theorem setPending {b : Bool} (h : StateInv s) (hb : b = true → ∀ p, s.fg ≠ .dwell p) : StateInv (s.setPending b) :=
  { h with
    pwmMode := fun p hd => by
      obtain ⟨htmr, heie, hact, hisr, _⟩ := h.pwmMode p hd
      exact ⟨htmr, heie, hact, hisr, Bool.eq_false_iff.mpr fun hb' => hb hb' p hd⟩ }

/-- The gate is open only where BOOT_OK has run and no dwell is in progress. -/
theorem enterEdge (h : StateInv s) (hg : edgeGate s = true) : StateInv s.enterEdge := by
  simp only [edgeGate, Bool.and_eq_true] at hg
  obtain ⟨⟨hgie, _⟩, heie⟩ := hg
  exact { h with
    notBooted := fun hb => Bool.noConfusion (hgie.symm.trans (h.gieBooted.trans hb))
    pwmMode := fun p hd => absurd hd (h.not_dwell_of_eie heie p) }

theorem leaveEdge (h : StateInv s) : StateInv s.leaveEdge :=
  { h with
    notBooted := fun hb => by
      obtain ⟨heie, _, hact⟩ := h.notBooted hb
      exact ⟨heie, rfl, hact⟩
    pwmMode := fun p hd => by
      obtain ⟨htmr, heie, hact, _, hpend⟩ := h.pwmMode p hd
      exact ⟨htmr, heie, hact, rfl, hpend⟩ }

/-! The foreground: a move within the loop, and the four steps that cross its border. -/

theorem goto {pos : FgPos} (h : StateInv s) (hs : s.fg.inLoop = true) (hpos : pos.inLoop = true) :
    StateInv (s.goto pos) := by
  obtain ⟨hb, hd⟩ := inLoop_iff.mp hs
  obtain ⟨hb', hd'⟩ := inLoop_iff.mp (show (s.goto pos).fg.inLoop = true from hpos)
  exact { h with
    gieBooted := (h.gieBooted.trans hb).trans hb'.symm
    notBooted := fun hb₀ => Bool.noConfusion (hb'.symm.trans hb₀)
    tickMode := fun _ _ => h.tickMode hb hd
    pwmMode := fun p hp => absurd hp (hd' p) }

theorem bootOk (h : StateInv s) (hat : fgAt s .boot = true) : StateInv
    ((((((s.setTimer .tickCfg).setPending false).clearLatch).setEdgeEnable true).enableInterrupts).goto .l1) := by
  have hb : s.booted = false := by simp [State.booted, (fgAt_iff.mp hat).1]
  obtain ⟨_, _, hact⟩ := h.notBooted hb
  exact { h with
    gieBooted := rfl
    notBooted := nofun
    tickMode := fun _ _ => ⟨rfl, rfl, hact⟩
    pwmMode := nofun }

theorem bootHalt (h : StateInv s) (hat : fgAt s .boot = true) : StateInv ((s.diag .bootCalibHalt).goto .halt) := by
  have hb : s.booted = false := by simp [State.booted, (fgAt_iff.mp hat).1]
  exact { h with
    gieBooted := h.gieBooted.trans hb
    notBooted := fun _ => h.notBooted hb
    tickMode := nofun
    pwmMode := nofun }

theorem actEnter {p : Position} (h : StateInv s) (hat : fgAt s (.act p) = true) : StateInv
    (((((s.setTimer (.pwmCfg p)).setPending false).setEdgeEnable false).drive
      (.pwm (widthOf s.params p))).goto (.dwell p)) := by
  obtain ⟨hfg, hisr⟩ := fgAt_iff.mp hat
  have hb : s.booted = true := by simp [State.booted, hfg]
  exact { h with
    gieBooted := h.gieBooted.trans hb
    notBooted := nofun
    tickMode := fun _ hd => absurd rfl (hd p)
    pwmMode := fun q hq => by
      obtain rfl : p = q := by simpa using hq
      exact ⟨rfl, rfl, rfl, hisr, rfl⟩ }

theorem actExit {p : Position} (h : StateInv s) (hat : fgAt s (.dwell p) = true) : StateInv
    (((((s.drive .low).setTimer .tickCfg).clearLatch).setEdgeEnable true).goto .l1) := by
  have hb : s.booted = true := by simp [State.booted, (fgAt_iff.mp hat).1]
  exact { h with
    gieBooted := h.gieBooted.trans hb
    notBooted := nofun
    tickMode := fun _ _ => ⟨rfl, rfl, rfl⟩
    pwmMode := nofun }

end StateInv

/-- Each arm of ISR_EDGE_BEGIN runs through the open gate (R55). -/
theorem edgeGate_of_edgeArm {a : EdgeArm} (h : edgeArmEnabled s a = true) : edgeGate s = true :=
  (Bool.and_eq_true_iff.mp h).1

theorem edgeGate_of_fallArm {a : FallArm} (h : fallArmEnabled s a = true) : edgeGate s = true :=
  edgeGate_of_edgeArm (Bool.and_eq_true_iff.mp h).1

/-- Every falling-edge arm but the first stands inside a frame (R43). -/
theorem not_done_of_fallArm {a : FallArm} (h : fallArmEnabled s a = true) (ha : a ≠ .idle) : s.done = false := by
  have hsel : selectFall (readFs s) = a := eq_of_beq (Bool.and_eq_true_iff.mp h).2
  rw [readFs, selectFall_fields] at hsel
  refine Bool.eq_false_iff.mpr fun hd => ha ?_
  rw [← hsel, if_pos hd]

theorem fgAt_of_cmdArm {a : CmdArm} (h : cmdArmEnabled s a = true) : fgAt s .l4 = true :=
  (Bool.and_eq_true_iff.mp h).1

/-- Whatever is taken keeps the invariant. -/
theorem Took.keeps_inv {m : Mnemonic} (ht : Took s m t) (h : StateInv s) : StateInv t := by
  cases ht with
  | evRise => exact h.latchRise
  | evFall => exact h.latchFall
  | tickPending _ hm => exact h.setPending fun _ => h.not_dwell_of_tickMode hm
  | tickLost _ => exact h
  | isrTick _ => exact h.countTick.setPending nofun
  | edgeDouble he => exact ((h.enterEdge (edgeGate_of_edgeArm he)).toggles _).diag _
  | edgeRise he => exact ((h.enterEdge (edgeGate_of_edgeArm he)).setDone (b := false) nofun).zeroTick
  | edgeNone he => exact h.enterEdge (edgeGate_of_edgeArm he)
  | fallIdle he => exact h.enterEdge (edgeGate_of_fallArm he)
  | fallFull he => exact h.enterEdge (edgeGate_of_fallArm he)
  | fallBit0 he =>
    have hd : s.done = false := not_done_of_fallArm (a := .bit0) he nofun
    exact ((h.enterEdge (edgeGate_of_fallArm he)).shiftIn _).countBit hd
  | fallBit1 he =>
    have hd : s.done = false := not_done_of_fallArm (a := .bit1) he nofun
    exact ((h.enterEdge (edgeGate_of_fallArm he)).shiftIn _).countBit hd
  | fallHdrOk he => exact h.enterEdge (edgeGate_of_fallArm he)
  | fallHdrErr he => exact (((h.enterEdge (edgeGate_of_fallArm he)).toggles _).diag _).afterHdrErr
  | fallGap he => exact (h.enterEdge (edgeGate_of_fallArm he)).afterGap
  | isrEdgeEnd _ => exact h.leaveEdge
  | bootOk he => exact h.bootOk (Bool.and_eq_true_iff.mp he).1
  | bootHalt he => exact h.bootHalt (Bool.and_eq_true_iff.mp he).1
  | dispClear he =>
    exact h.clearAcc.loopTop.goto (by rw [loopTop_eq]; exact inLoop_of_fgAt rfl he) rfl
  | dispWait he => exact h.goto (inLoop_of_fgAt rfl he) (by split <;> rfl)
  | dispRearm he => exact (h.clearIdx.setDone fun _ => rfl).goto (inLoop_of_fgAt (s := s) rfl he) rfl
  | cmdPosA he => exact h.goto (inLoop_of_fgAt rfl (fgAt_of_cmdArm he)) rfl
  | cmdPosB he => exact h.goto (inLoop_of_fgAt rfl (fgAt_of_cmdArm he)) rfl
  | cmdPosC he => exact h.goto (inLoop_of_fgAt rfl (fgAt_of_cmdArm he)) rfl
  | cmdToggle he => exact h.toggle.goto (inLoop_of_fgAt (s := s) rfl (fgAt_of_cmdArm he)) rfl
  | cmdOther he => exact (h.clearIdx.diag _).goto (inLoop_of_fgAt (s := s) rfl (fgAt_of_cmdArm he)) rfl
  | actEnter p hat => exact h.actEnter hat
  | actExit p hat => exact h.actExit hat

theorem exec_keeps_inv {i : Instr} (h : StateInv s) (ht : exec i s = .next t) : StateInv t := by
  obtain ⟨_, htook, _⟩ := exec_took ht
  exact htook.keeps_inv h

/-- Settles O53: a step runs one instruction on the state past its line, and whatever an instruction takes keeps the
invariant. -/
theorem stepKeepsTheInvariant : Obligations.StepKeepsTheInvariant := by
  intro s t h hstep
  obtain ⟨_, _, _, _, ht⟩ := step_next hstep
  exact exec_keeps_inv h.afterPick ht

/-- Every reachable state has the invariant, by induction on how it is reached. -/
theorem Reachable.inv (h : Reachable s) : StateInv s := by
  induction h with
  | reset p hp => exact resetWith_inv hp
  | step i _ _ ht ih => exact exec_keeps_inv ih ht

/-- The timer drives the pin exactly during a dwell, once BOOT_OK has run (R19, R28 (c)). -/
theorem StateInv.pwm_iff_dwell (h : StateInv s) (hb : s.booted = true) :
    s.timer.mode = .pwm ↔ ∃ p, s.fg = .dwell p := by
  constructor
  · intro hm
    by_contra hd
    obtain ⟨htmr, _⟩ := h.tickMode hb (not_exists.mp hd)
    rw [timer_eq htmr] at hm
    cases hm
  · rintro ⟨p, hd⟩
    obtain ⟨htmr, _⟩ := h.pwmMode p hd
    rw [timer_eq htmr]; rfl

/-- Edges are enabled exactly in TickMode, once BOOT_OK has run (R28 (d)). -/
theorem StateInv.eie_iff_tickMode (h : StateInv s) (hb : s.booted = true) :
    s.eie = true ↔ s.timer.mode = .tick := by
  have off_dwell (hd : ∀ p, s.fg ≠ .dwell p) : s.tmr = .tickCfg ∧ s.eie = true := by
    obtain ⟨htmr, heie, _⟩ := h.tickMode hb hd
    exact ⟨htmr, heie⟩
  constructor
  · intro he
    rw [timer_eq (off_dwell (h.not_dwell_of_eie he)).1]; rfl
  · exact fun hm => (off_dwell (h.not_dwell_of_tickMode hm)).2

/-- The invariant implies R28 (a) to (e). -/
theorem StateInv.r28 (h : StateInv s) : R28 s where
  idxRange := Nat.le_of_lt_succ s.idx.isLt
  doneIdle := h.doneIdle
  pwmAtDwell := h.pwm_iff_dwell
  edgeEnableInTick := h.eie_iff_tickMode
  settleNeedsGie := by
    intro hisr
    rw [h.gieBooted]
    refine Bool.of_not_eq_false fun hb => ?_
    obtain ⟨_, hnone, _⟩ := h.notBooted hb
    cases hisr.symm.trans hnone

/-- Settles O54: a reachable state has the invariant, and the invariant implies R28. -/
theorem reachableStatesMeetTheInvariants : Obligations.ReachableStatesMeetTheInvariants :=
  fun _ hr => hr.inv.r28

theorem inFrame_iff (h32 : s.params.idxMax = 32) : s.inFrame = true ↔ s.done = false ∧ s.idx.val < 32 := by
  simp [State.inFrame, h32]

theorem frameComplete_iff (h32 : s.params.idxMax = 32) : s.frameComplete = true ↔ s.idx.val = 32 := by
  simp [State.frameComplete, h32]

/-- The Decoder is idle with an empty frame, or in a frame that is short of 32 bits, or holds a whole one (R16). -/
theorem StateInv.decoder_cases (h : StateInv s) :
    (s.done = true ∧ s.idx.val = 0) ∨ (s.done = false ∧ s.idx.val < 32) ∨ (s.done = false ∧ s.idx.val = 32) := by
  cases hd : s.done with
  | true => exact .inl ⟨rfl, congrArg Fin.val (h.doneIdle hd)⟩
  | false => exact .inr ((Nat.lt_or_eq_of_le h.r28.idxRange).imp (⟨rfl, ·⟩) (⟨rfl, ·⟩))

/-- Settles O55: the invariant leaves three cases for `done` and `idx`, and each makes one state hold and two fail. -/
theorem decoderStatesAreExclusive : Obligations.DecoderStatesAreExclusive := by
  refine fun s => ⟨Iff.rfl, fun h32 => ⟨inFrame_iff h32, frameComplete_iff h32⟩, fun hr => ?_⟩
  obtain ⟨_, _, _, _, _, h32, _⟩ := hr.inv.valid
  simp only [← Bool.not_eq_true, inFrame_iff h32, frameComplete_iff h32, State.idle]
  obtain ⟨hd, hi⟩ | ⟨hd, hi⟩ | ⟨hd, hi⟩ := hr.inv.decoder_cases
  · exact .inl (by simp [hd, hi])
  · exact .inr (.inl (by simp [hd, hi, hi.ne]))
  · exact .inr (.inr (by simp [hd, hi]))

end Sys2Proof.Machine
end

section
/-! SUPPORT. The traces: every step appends the same events whatever they hold, and reads nothing of them (R26). -/

namespace Sys2Proof.Machine

/-- The state with other traces. -/
def State.withTraces (s : State) (o : List PinEvent) (d : List Diag) : State := { s with obs := o, dtr := d }

/-- An outcome with other traces in the state it leaves, if it leaves one. -/
def leavesTraces (o : List PinEvent) (d : List Diag) :
    Host.Outcome State Fault Refusal → Host.Outcome State Fault Refusal
  | .next t => .next (t.withTraces o d)
  | .fault f => .fault f
  | .refused r => .refused r

/-- An update that appends events to the traces, the same events whatever the traces hold. -/
def Appends (g : State → State) : Prop :=
  ∀ s, ∃ o' d', ∀ o d, g (s.withTraces o d) = (g s).withTraces (o ++ o') (d ++ d')

/-- The same of a meaning or a step: its next state with those events, or the same stop. -/
def TraceBlind (f : State → Host.Outcome State Fault Refusal) : Prop :=
  ∀ s, ∃ o' d', ∀ o d, f (s.withTraces o d) = leavesTraces (o ++ o') (d ++ d') (f s)

/-! What a step reads is the same with other traces. -/

section
variable (s : State) (o : List PinEvent) (d : List Diag)

@[simp] theorem withTraces_params : (s.withTraces o d).params = s.params := rfl

@[simp] theorem enabled_withTraces (m : Mnemonic) : enabled (s.withTraces o d) m = enabled s m := by
  cases m <;> rfl

@[simp] theorem admitted_withTraces (m : Mnemonic) : admitted (s.withTraces o d) m = admitted s m := rfl

@[simp] theorem nextLine_withTraces : nextLine (s.withTraces o d) = nextLine s := by
  simp only [nextLine, choices, enabled_withTraces, admitted_withTraces]
  rfl

@[simp] theorem heldWord_withTraces (m : Mnemonic) : heldWord (s.withTraces o d) m = heldWord s m := by
  cases m <;> rfl

theorem afterPick_withTraces : afterPick (s.withTraces o d) = (afterPick s).withTraces o d := by
  unfold afterPick
  cases h : s.script <;> simp only [State.withTraces, h]

end

/-! The operations. -/

/-- An update that leaves the traces alone appends nothing. -/
theorem Appends.of_silent {g : State → State} (h : ∀ s o d, g (s.withTraces o d) = (g s).withTraces o d) :
    Appends g := fun s => ⟨[], [], fun o d => by rw [h, List.append_nil, List.append_nil]⟩

theorem Appends.comp {f g : State → State} (hf : Appends f) (hg : Appends g) : Appends fun s => f (g s) := by
  intro s
  obtain ⟨o₁, d₁, h₁⟩ := hg s
  obtain ⟨o₂, d₂, h₂⟩ := hf (g s)
  refine ⟨o₁ ++ o₂, d₁ ++ d₂, fun o d => ?_⟩
  simp only [h₁, h₂, List.append_assoc]

theorem Appends.goto {g : State → State} (hg : Appends g) (pos : FgPos) : Appends fun s => (g s).goto pos :=
  Appends.comp (f := (·.goto pos)) (.of_silent fun _ _ _ => rfl) hg

/-- What an update appends may depend on the parameters. -/
theorem Appends.of_params {g : Params → State → State} (h : ∀ p, Appends (g p)) : Appends fun s => g s.params s :=
  fun s => h s.params s

theorem appends_diag (k : Diag) : Appends (·.diag k) :=
  fun s => ⟨[], [k], fun o d => by rw [List.append_nil]; rfl⟩

theorem appends_drive (a : ActPin) : Appends (·.drive a) :=
  fun s => ⟨[.act a], [], fun o d => by rw [List.append_nil]; rfl⟩

theorem appends_toggle : Appends State.toggle :=
  fun s => ⟨[.ind !s.ind], [], fun o d => by rw [List.append_nil]; rfl⟩

theorem appends_toggles (n : Nat) : Appends (·.toggles n) := by
  induction n with
  | zero => exact .of_silent fun _ _ _ => rfl
  | succ n ih => exact ih.comp appends_toggle

/-- Entry to the edge handler, then as many toggles as a parameter says. -/
theorem appends_entry_toggles (n : Params → Nat) : Appends fun s => s.enterEdge.toggles (n s.params) :=
  Appends.of_params fun p => (appends_toggles (n p)).comp (.of_silent fun _ _ _ => rfl)

theorem appends_afterHdrErr : Appends afterHdrErr := by
  refine .of_silent fun s o d => ?_
  simp only [afterHdrErr_eq]
  rfl

theorem appends_afterGap : Appends afterGap := by
  intro s
  by_cases hp : s.params.gapPolicy = .abort
  · exact ⟨[], [.gapAbort], fun o d => by simp [afterGap_eq, State.withTraces, hp]⟩
  · exact ⟨[], [], fun o d => by simp [afterGap_eq, State.withTraces, hp]⟩

/-! The meanings. -/

/-- A guarded step is blind to the traces where its guard is and its effect only appends. -/
theorem takeIf_traceBlind {m : Mnemonic} {c : State → Bool} {g : State → State}
    (hc : ∀ s o d, c (s.withTraces o d) = c s) (hg : Appends g) : TraceBlind fun s => takeIf m (c s) (g s) := by
  intro s
  obtain ⟨o', d', h⟩ := hg s
  refine ⟨o', d', fun o d => ?_⟩
  simp only [hc, h]
  cases c s <;> rfl

theorem row_traceBlind {m : Mnemonic} {g : State → State} (hg : Appends g) :
    TraceBlind fun s => takeIf m (enabled s m) (g s) :=
  takeIf_traceBlind (enabled_withTraces · · · m) hg

/-- A row that leaves the traces alone. -/
theorem silent_traceBlind {m : Mnemonic} {g : State → State}
    (h : ∀ s o d, g (s.withTraces o d) = (g s).withTraces o d) : TraceBlind fun s => takeIf m (enabled s m) (g s) :=
  row_traceBlind (.of_silent h)

/-- A step that runs, where it is enabled, the instruction a word of the state selects is blind where the selection is
and every such instruction is. -/
theorem selecting_traceBlind {f : State → Host.Outcome State Fault Refusal} {c : State → Bool} {arm : State → Instr}
    {r : Refusal} (hc : ∀ s o d, c (s.withTraces o d) = c s) (harm : ∀ s o d, arm (s.withTraces o d) = arm s)
    (hon : ∀ s, c s = true → f s = exec (arm s) s) (hoff : ∀ s, c s = false → f s = .refused r)
    (h : ∀ s, TraceBlind (exec (arm s))) : TraceBlind f := by
  intro s
  cases hcs : c s with
  | true =>
    obtain ⟨o', d', hs⟩ := h s s
    refine ⟨o', d', fun o d => ?_⟩
    rw [hon _ ((hc s o d).trans hcs), harm, hs, hon s hcs]
  | false =>
    refine ⟨[], [], fun o d => ?_⟩
    rw [hoff _ ((hc s o d).trans hcs), hoff s hcs, leavesTraces]

theorem fallArm_traceBlind (a : FallArm) : TraceBlind (exec a.instr) := by
  cases a with
  | idle => exact silent_traceBlind fun _ _ _ => rfl
  | full => exact silent_traceBlind fun _ _ _ => rfl
  | bit0 => exact silent_traceBlind fun _ _ _ => rfl
  | bit1 => exact silent_traceBlind fun _ _ _ => rfl
  | hdrOk => exact silent_traceBlind fun _ _ _ => rfl
  | hdrErr =>
    exact row_traceBlind (appends_afterHdrErr.comp ((appends_diag _).comp
      (appends_entry_toggles Params.hdrErrToggles)))
  | gap => exact row_traceBlind (appends_afterGap.comp (.of_silent fun _ _ _ => rfl))

theorem edgeFall_traceBlind : TraceBlind (exec .edgeFall) :=
  selecting_traceBlind (c := (enabled · .edgeFall)) (arm := fun s => (selectFall (readFs s)).instr)
    (enabled_withTraces · · · _) (fun _ _ _ => rfl) (fun _ => execEdgeFall_eq)
    (fun _ hc => if_neg (Bool.eq_false_iff.mp hc)) (fun _ => fallArm_traceBlind _)

theorem edgeArm_traceBlind (a : EdgeArm) : TraceBlind (exec a.instr) := by
  cases a with
  | double =>
    exact row_traceBlind ((appends_diag _).comp (appends_entry_toggles Params.faultToggles))
  | rise => exact silent_traceBlind fun _ _ _ => rfl
  | fall => exact edgeFall_traceBlind
  | none => exact silent_traceBlind fun _ _ _ => rfl

theorem isrEdgeBegin_traceBlind (r f : Bool) : TraceBlind (exec (.isrEdgeBegin r f)) :=
  selecting_traceBlind (c := fun s => enabled s .isrEdgeBegin && s.elatch == ⟨r, f⟩)
    (arm := fun _ => (selectEdge (elWord r f)).instr)
    (fun _ _ _ => rfl) (fun _ _ _ => rfl) (fun _ => execIsrEdgeBegin_eq)
    (fun _ hc => if_neg (Bool.eq_false_iff.mp hc)) (fun _ => edgeArm_traceBlind _)

theorem cmdArm_traceBlind (a : CmdArm) (v : CwWord) : TraceBlind (exec (a.instr v)) := by
  cases a with
  | posA => exact silent_traceBlind fun _ _ _ => rfl
  | posB => exact silent_traceBlind fun _ _ _ => rfl
  | posC => exact silent_traceBlind fun _ _ _ => rfl
  | toggle => exact row_traceBlind (appends_toggle.goto .l1)
  | other =>
    exact takeIf_traceBlind (fun _ _ _ => rfl) (((appends_diag _).comp (.of_silent fun _ _ _ => rfl)).goto .l1)

theorem dispDispatch_traceBlind : TraceBlind (exec .dispDispatch) :=
  selecting_traceBlind (c := (enabled · .dispDispatch)) (arm := fun s => (selectCmd s.params s.acc).instr s.acc)
    (enabled_withTraces · · · _) (fun _ _ _ => rfl) (fun _ => execDispDispatch_eq)
    (fun _ hc => if_neg (Bool.eq_false_iff.mp hc)) (fun _ => cmdArm_traceBlind _ _)

/-- A step that is enabled everywhere and leaves the traces alone. -/
theorem next_traceBlind {g : State → State} (h : ∀ s o d, g (s.withTraces o d) = (g s).withTraces o d) :
    TraceBlind fun s => .next (g s) :=
  takeIf_traceBlind (m := .evRise) (c := fun _ => true) (fun _ _ _ => rfl) (.of_silent h)

/-- No meaning reads the traces. -/
theorem exec_traceBlind (i : Instr) : TraceBlind (exec i) := by
  cases i with
  | evRise => exact next_traceBlind fun _ _ _ => rfl
  | evFall => exact next_traceBlind fun _ _ _ => rfl
  | evTick =>
    refine next_traceBlind (g := fun s => if s.booted && s.timer.mode == .tick then s.setPending true else s)
      fun s o d => ?_
    rw [apply_ite (State.withTraces · o d)]
    rfl
  | isrTick => exact silent_traceBlind fun _ _ _ => rfl
  | isrEdgeBegin r f => exact isrEdgeBegin_traceBlind r f
  | edgeDouble => exact edgeArm_traceBlind .double
  | edgeRise => exact edgeArm_traceBlind .rise
  | edgeFall => exact edgeFall_traceBlind
  | edgeNone => exact edgeArm_traceBlind .none
  | fallIdle => exact fallArm_traceBlind .idle
  | fallFull => exact fallArm_traceBlind .full
  | fallBit0 => exact fallArm_traceBlind .bit0
  | fallBit1 => exact fallArm_traceBlind .bit1
  | fallHdrOk => exact fallArm_traceBlind .hdrOk
  | fallHdrErr => exact fallArm_traceBlind .hdrErr
  | fallGap => exact fallArm_traceBlind .gap
  | isrEdgeEnd => exact silent_traceBlind fun _ _ _ => rfl
  | bootOk => exact silent_traceBlind fun _ _ _ => rfl
  | bootHalt => exact row_traceBlind ((appends_diag _).goto .halt)
  | dispClear =>
    refine silent_traceBlind fun s o d => ?_
    simp only [loopTop_eq]
    rfl
  | dispWait => exact silent_traceBlind fun _ _ _ => rfl
  | dispRearm => exact silent_traceBlind fun _ _ _ => rfl
  | dispDispatch => exact dispDispatch_traceBlind
  | cmdPosA => exact cmdArm_traceBlind .posA 0
  | cmdPosB => exact cmdArm_traceBlind .posB 0
  | cmdPosC => exact cmdArm_traceBlind .posC 0
  | cmdToggle => exact cmdArm_traceBlind .toggle 0
  | cmdOther cw => exact cmdArm_traceBlind .other cw
  | actEnter p =>
    have hsuspend : Appends fun s => ((s.setTimer (.pwmCfg p)).setPending false).setEdgeEnable false :=
      .of_silent fun _ _ _ => rfl
    have hdrive : Appends fun s => s.drive (.pwm (widthOf s.params p)) :=
      .of_params fun q => appends_drive (.pwm (widthOf q p))
    exact takeIf_traceBlind (fun _ _ _ => rfl) ((hdrive.comp hsuspend).goto (.dwell p))
  | actExit p =>
    have hresume : Appends fun s => ((s.setTimer .tickCfg).clearLatch).setEdgeEnable true :=
      .of_silent fun _ _ _ => rfl
    exact takeIf_traceBlind (fun _ _ _ => rfl) ((hresume.comp (appends_drive .low)).goto .l1)

/-- No step reads the traces: neither the line chosen nor its word does, and no meaning does. -/
theorem step_traceBlind : TraceBlind step := by
  intro s
  by_cases ha : admitted s (nextLine s) = true
  · cases hd : decode s.params (heldWord s (nextLine s)) with
    | instr i =>
      by_cases hm : i.mnemonic = nextLine s
      · obtain ⟨o', d', h⟩ := exec_traceBlind i (afterPick s)
        exact ⟨o', d', fun o d => by simp [step, ha, hd, hm, afterPick_withTraces, h]⟩
      · exact ⟨[], [], fun o d => by simp [step, ha, hd, hm, leavesTraces]⟩
    | reject r => exact ⟨[], [], fun o d => by cases r <;> simp [step, ha, hd, rejected, leavesTraces]⟩
  · exact ⟨[], [], fun o d => by simp [step, ha, leavesTraces]⟩

/-- Settles O56: `step` is blind to the traces; with the state's own traces given back, this says that they only grow. -/
theorem tracesAreNeverRead : Obligations.TracesAreNeverRead := by
  intro s o d
  obtain ⟨o', d', h⟩ := step_traceBlind s
  have hother : step { s with obs := o, dtr := d } = leavesTraces (o ++ o') (d ++ d') (step s) := h o d
  refine ⟨fun t ht => ?_, fun r hr => ?_, fun f hf => ?_⟩
  · have hown : step s = leavesTraces (s.obs ++ o') (s.dtr ++ d') (step s) := h s.obs s.dtr
    rw [ht] at hown hother
    have hgrown : t = t.withTraces (s.obs ++ o') (s.dtr ++ d') := Host.Outcome.next.inj hown
    exact ⟨o', d', congrArg State.obs hgrown, congrArg State.dtr hgrown, hother⟩
  · rw [hother, hr, leavesTraces]
  · rw [hother, hf, leavesTraces]

end Sys2Proof.Machine
end

section
/-! SUPPORT. The writers of each state element (the table of R11): what is taken, and the agents' step it is taken in. -/

namespace Sys2Proof.Machine

/-- The agents' step that a row is taken in (R55, R72): an arm in the entry that reads its latch or in the dispatch, any
other row in itself. -/
def RunsIn (i : Instr) : Mnemonic → Prop
  | .edgeDouble => i = .isrEdgeBegin true true
  | .edgeRise => i = .isrEdgeBegin true false
  | .edgeNone => i = .isrEdgeBegin false false
  | .edgeFall | .fallIdle | .fallFull | .fallBit0 | .fallBit1 | .fallHdrOk | .fallHdrErr | .fallGap =>
    i = .isrEdgeBegin false true
  | .cmdPosA | .cmdPosB | .cmdPosC | .cmdToggle | .cmdOther | .dispDispatch => i = .dispDispatch
  | .evRise => i = .evRise
  | .evFall => i = .evFall
  | .evTick => i = .evTick
  | .isrTick => i = .isrTick
  | .isrEdgeBegin => ∃ r f, i = .isrEdgeBegin r f
  | .isrEdgeEnd => i = .isrEdgeEnd
  | .bootOk => i = .bootOk
  | .bootHalt => i = .bootHalt
  | .dispClear => i = .dispClear
  | .dispWait => i = .dispWait
  | .dispRearm => i = .dispRearm
  | .actEnter => ∃ p, i = .actEnter p
  | .actExit => ∃ p, i = .actExit p

variable {s t : State} {m : Mnemonic} {i : Instr}

theorem runsIn_own (hi : i.mnemonic ∈ Mnemonic.steps) : RunsIn i i.mnemonic := by
  cases i <;> simp_all [RunsIn, Instr.mnemonic, Mnemonic.steps]

theorem runsIn_edgeArm (r f : Bool) : RunsIn (.isrEdgeBegin r f) (selectEdge (elWord r f)).instr.mnemonic := by
  cases r <;> cases f <;> rfl

theorem runsIn_fallArm (a : FallArm) : RunsIn (.isrEdgeBegin false true) a.instr.mnemonic := by cases a <;> rfl

theorem runsIn_cmdArm (a : CmdArm) (v : CwWord) : RunsIn .dispDispatch (a.instr v).mnemonic := by cases a <;> rfl

theorem latch_of_selectEdge_fall : ∀ r f : Bool, selectEdge (elWord r f) = .fall → r = false ∧ f = true := by decide

/-- What an agent's step is taken as runs in that step. -/
theorem TakenAs.runsIn (h : TakenAs s i m) (hi : i.mnemonic ∈ Mnemonic.steps) : RunsIn i m := by
  rcases h with rfl | ⟨rfl, _⟩ | ⟨rfl, rfl⟩ | ⟨r, f, rfl, _, rfl | ⟨hfall, rfl⟩⟩
  · exact runsIn_own hi
  · exact absurd hi (by decide)
  · exact runsIn_cmdArm _ _
  · exact runsIn_edgeArm r f
  · obtain ⟨rfl, rfl⟩ := latch_of_selectEdge_fall r f hfall
    exact runsIn_fallArm _

/-- A foreground row runs in a foreground step. -/
theorem RunsIn.isFg (h : RunsIn i m) (hm : m.isFg = true) : i.mnemonic.isFg = true := by
  cases m with
  | actEnter | actExit => obtain ⟨p, rfl⟩ := h; rfl
  | bootOk | bootHalt | dispClear | dispWait | dispRearm | dispDispatch => cases h; rfl
  | cmdPosA | cmdPosB | cmdPosC | cmdToggle | cmdOther => cases h; rfl
  | _ => cases hm

/-! One element each: it keeps its value, or one of its writers was taken. -/

namespace Took

theorem tick_writers (h : Took s m t) : t.tick = s.tick ∨ m ∈ [.isrTick, .edgeRise] := by
  cases h <;> simp [State.toggles_eq, afterHdrErr_eq, afterGap_eq, loopTop_eq]

theorem acc_writers (h : Took s m t) :
    t.acc = s.acc ∨ m ∈ [.fallBit0, .fallBit1, .fallHdrErr, .fallGap, .dispClear] := by
  cases h <;> simp [State.toggles_eq, afterHdrErr_eq, afterGap_eq, loopTop_eq]

theorem idx_writers (h : Took s m t) :
    t.idx = s.idx ∨ m ∈ [.fallBit0, .fallBit1, .fallHdrErr, .fallGap, .dispRearm, .cmdOther] := by
  cases h <;> simp [State.toggles_eq, afterHdrErr_eq, afterGap_eq, loopTop_eq]

theorem done_writers (h : Took s m t) : t.done = s.done ∨ m ∈ [.edgeRise, .dispRearm] := by
  cases h <;> simp [State.toggles_eq, afterHdrErr_eq, afterGap_eq, loopTop_eq]

/-- DISP_CLEAR clears the latch under `LOOPTOP_CLEAR` only (R69). -/
theorem elatch_writers (h : Took s m t) :
    t.elatch = s.elatch ∨ m ∈ [.evRise, .evFall, .isrEdgeEnd, .bootOk, .actExit] ++
      if s.params.looptopClear = true then [.dispClear] else [] := by
  cases h with
  | dispClear _ => by_cases hc : s.params.looptopClear = true <;> simp [loopTop_eq, hc]
  | _ => simp [State.toggles_eq, afterHdrErr_eq, afterGap_eq]

theorem tpend_writers (h : Took s m t) : t.tpend = s.tpend ∨ m ∈ [.evTick, .isrTick, .bootOk, .actEnter] := by
  cases h <;> simp [State.toggles_eq, afterHdrErr_eq, afterGap_eq, loopTop_eq]

theorem eie_writers (h : Took s m t) : t.eie = s.eie ∨ m ∈ [.bootOk, .actEnter, .actExit] := by
  cases h <;> simp [State.toggles_eq, afterHdrErr_eq, afterGap_eq, loopTop_eq]

/-- Once set, `gie` stays set: no row clears it (R21). -/
theorem gie_writers (h : Took s m t) : t.gie = s.gie ∨ m = .bootOk ∧ t.gie = true := by
  cases h <;> simp [State.toggles_eq, afterHdrErr_eq, afterGap_eq, loopTop_eq]

theorem isr_writers (h : Took s m t) :
    t.isr = s.isr ∨ m ∈ [.isrEdgeEnd, .edgeDouble, .edgeRise, .edgeNone] ++
      [.fallIdle, .fallFull, .fallBit0, .fallBit1, .fallHdrOk, .fallHdrErr, .fallGap] := by
  cases h <;> simp [State.toggles_eq, afterHdrErr_eq, afterGap_eq, loopTop_eq]

theorem act_writers (h : Took s m t) : t.act = s.act ∨ m ∈ [.actEnter, .actExit] := by
  cases h <;> simp [State.toggles_eq, afterHdrErr_eq, afterGap_eq, loopTop_eq]

theorem ind_writers (h : Took s m t) : t.ind = s.ind ∨ m ∈ [.edgeDouble, .fallHdrErr, .cmdToggle] := by
  cases h <;> simp [State.toggles_eq, afterHdrErr_eq, afterGap_eq, loopTop_eq]

theorem tmr_writers (h : Took s m t) : t.tmr = s.tmr ∨ m ∈ [.bootOk, .actEnter, .actExit] := by
  cases h <;> simp [State.toggles_eq, afterHdrErr_eq, afterGap_eq, loopTop_eq]

theorem fg_writers (h : Took s m t) : t.fg = s.fg ∨ m.isFg = true := by
  cases h <;> simp [State.toggles_eq, afterHdrErr_eq, afterGap_eq, loopTop_eq, Mnemonic.isFg, Mnemonic.isDispatch]

theorem obs_writers (h : Took s m t) :
    t.obs = s.obs ∨ m ∈ [.edgeDouble, .fallHdrErr, .cmdToggle, .actEnter, .actExit] := by
  cases h <;> simp [State.toggles_eq, afterHdrErr_eq, afterGap_eq, loopTop_eq]

theorem dtr_writers (h : Took s m t) :
    t.dtr = s.dtr ∨ m ∈ [.edgeDouble, .fallHdrErr, .fallGap, .cmdOther, .bootHalt] := by
  cases h <;> simp [State.toggles_eq, afterHdrErr_eq, afterGap_eq, loopTop_eq]

theorem params_eq (h : Took s m t) : t.params = s.params := by
  cases h <;> simp [State.toggles_eq, afterHdrErr_eq, afterGap_eq, loopTop_eq]

end Took

/-- An element that changes was written by a row of its list, which runs in `i`. -/
theorem RunsIn.of_change {P kept : Prop} {rows : List Mnemonic} (hr : RunsIn i m) (hw : kept ∨ m ∈ rows)
    (hrows : ∀ m ∈ rows, RunsIn i m → P) (hne : ¬ kept) : P :=
  hrows m (hw.resolve_left hne) hr

/-- Settles O51: element by element, the row that wrote it, and the agents' step that row runs in. -/
theorem onlyTheListedStepsWrite : Obligations.OnlyTheListedStepsWrite := by
  intro i s t hi ht
  obtain ⟨m, h, htaken⟩ := exec_took ht
  have hr : RunsIn i m := htaken.runsIn hi
  refine ⟨hr.of_change h.tick_writers ?_, hr.of_change h.acc_writers ?_, hr.of_change h.idx_writers ?_,
    hr.of_change h.done_writers ?_, hr.of_change h.elatch_writers ?_, hr.of_change h.tpend_writers ?_,
    hr.of_change h.eie_writers ?_, fun hne => ?gie, hr.of_change h.isr_writers ?_, hr.of_change h.act_writers ?_,
    hr.of_change h.ind_writers ?_, hr.of_change h.tmr_writers ?_, fun hne => hr.isFg (h.fg_writers.resolve_left hne),
    hr.of_change h.obs_writers ?_, hr.of_change h.dtr_writers ?_, h.params_eq⟩
  case gie =>
    obtain ⟨rfl, hset⟩ := h.gie_writers.resolve_left hne
    exact ⟨hr, hset⟩
  all_goals simp +contextual [RunsIn]

end Sys2Proof.Machine
end

section
/-! SUPPORT. Playing a script: what a list of lines does to a state, whatever the script holds after them (R49). -/

namespace Sys2Proof.Machine

theorem core_run_add (M : Host.Core) {m : Nat} {s t : M.State} (h : M.run m s = .next t) (n : Nat) :
    M.run (m + n) s = M.run n t := by
  induction m generalizing s with
  | zero =>
    obtain rfl : s = t := Host.Outcome.next.inj h
    rw [Nat.zero_add]
  | succ m ih =>
    cases hstep : M.step s with
    | next u =>
      rw [core_run_succ M hstep] at h
      rw [Nat.add_right_comm, core_run_succ M hstep, ih h]
    | fault r => simp [Host.Core.run, hstep] at h
    | refused r => simp [Host.Core.run, hstep] at h

variable {s t u : State} {l m : List Mnemonic} {rest : List Mnemonic}

/-- The lines `l` take `s` to `t` and are consumed, whatever the script holds after them. -/
def Plays (l : List Mnemonic) (s t : State) : Prop :=
  ∀ rest, runSteps l.length { s with script := l ++ rest } = .next { t with script := rest }

/-- What a script that begins with `l` runs to. -/
theorem Plays.runSteps_eq (h : Plays l s t) (hs : s.script = l ++ rest) :
    runSteps l.length s = .next { t with script := rest } := by
  have hown : ({ s with script := l ++ rest } : State) = s := by rw [← hs]
  rw [← h rest, hown]

/-- One script after another. -/
theorem Plays.append (hl : Plays l s t) (hm : Plays m t u) : Plays (l ++ m) s u := by
  intro rest
  rw [List.length_append, List.append_assoc]
  exact (core_run_add Sys2Proof.core (hl (m ++ rest)) m.length).trans (hm rest)

/-- One line plays as the instruction its word decodes to. -/
theorem plays_line {m : Mnemonic} {i : Instr} (ha : admitted s m = true)
    (hd : decode s.params (heldWord s m) = .instr i) (hm : i.mnemonic = m)
    (ht : ∀ rest, exec i { s with script := rest } = .next { t with script := rest }) : Plays [m] s t := by
  intro rest
  have hadmitted : admitted { s with script := m :: rest } m = true := ha
  have hword : heldWord { s with script := m :: rest } m = heldWord s m := by cases m <;> rfl
  have hstep : step { s with script := m :: rest } = .next { t with script := rest } :=
    (step_of_decode hadmitted ((congrArg (decode s.params) hword).trans hd) hm).trans (ht rest)
  exact runSteps_succ hstep 0

theorem plays_evRise : Plays [.evRise] s s.latchRise :=
  plays_line (i := .evRise) (admitted_of_isEnv rfl) rfl rfl fun _ => rfl

theorem plays_evFall : Plays [.evFall] s s.latchFall :=
  plays_line (i := .evFall) (admitted_of_isEnv rfl) rfl rfl fun _ => rfl

/-- With no tick pending no order holds the edge handler back (R88). -/
theorem admitted_isrEdgeBegin (h : s.tpend = false) : admitted s .isrEdgeBegin = true := by
  have hoff : tickEnabled s = false := by simp [tickEnabled, h]
  unfold admitted
  split
  · rfl
  · simp [hoff]
  · rfl

/-- `IRQ_ORDER` never holds the return from the handler back (R88). -/
theorem admitted_isrEdgeEnd (s : State) : admitted s .isrEdgeEnd = true := by
  unfold admitted
  split <;> rfl

theorem plays_isrEdgeBegin (hp : s.edgePending = true) (hn : s.tpend = false)
    (ht : ∀ rest, exec (.isrEdgeBegin s.elatch.r s.elatch.f) { s with script := rest } =
      .next { t with script := rest }) : Plays [.isrEdgeBegin] s t :=
  plays_line (admitted_isrEdgeBegin hn) (decode_readEl hp) rfl ht

theorem plays_isrEdgeEnd (h : s.isr = .edgeSettle) : Plays [.isrEdgeEnd] s s.leaveEdge :=
  plays_line (i := .isrEdgeEnd) (admitted_isrEdgeEnd s) (decode_readIp h) rfl
    fun _ => execIsrEdgeEnd_next.mpr ⟨beq_iff_eq.mpr h, rfl⟩

/-- Being quiet does not read what the Decoder writes. -/
theorem Quiet.with_decode (h : Quiet s) (acc : Nat) (idx : Fin 33) (done : Bool) (tick : Nat) :
    Quiet { s with acc := acc, idx := idx, done := done, tick := tick } :=
  ⟨h.valid, h.booted, h.gie, h.eie, h.isr, h.tmr, h.tpend, h.elatch⟩

theorem length_tick (n : Nat) : (Script.tick n).length = 2 * n := by
  induction n with
  | zero => rfl
  | succ n ih =>
    have hcons : (Script.tick (n + 1)).length = (Script.tick n).length + 2 := rfl
    omega

/-- `TICK n` from a quiet state counts `n` ticks. -/
theorem plays_tick (hq : Quiet s) (htick : s.tick < 2 ^ s.params.tickW) (n : Nat) :
    Plays (Script.tick n) s { s with tick := (s.tick + n) % 2 ^ s.params.tickW } := by
  intro rest
  rw [length_tick]
  exact servedPeriodsCountModulo n _ rest (hq.with_tick_script _ _) htick rfl

/-- A quiet state lets the edge handler in as soon as an edge is latched (R55). -/
theorem Quiet.edgeGate (h : Quiet s) : edgeGate s = true := by
  simp [Machine.edgeGate, h.gie, h.isr, h.eie]

/-- An edge that comes to a quiet state: latched, decoded by its arm in the entry of the handler (R55), cleared at the
return (R67). -/
theorem plays_edge {ev : Mnemonic} {r f : Bool} {a : EdgeArm} (hs : Quiet s) (ht : Quiet t) (hrf : (r || f) = true)
    (hev : Plays [ev] s { s with elatch := ⟨r, f⟩ }) (ha : selectEdge (elWord r f) = a)
    (harm : ∀ u : State, u = { s with elatch := ⟨r, f⟩, script := u.script } → edgeArmEnabled u a = true →
      exec a.instr u = .next { t with elatch := ⟨r, f⟩, isr := .edgeSettle, script := u.script }) :
    Plays [ev, .isrEdgeBegin, .isrEdgeEnd] s t := by
  have hgate (rest) : Machine.edgeGate { s with elatch := ⟨r, f⟩, script := rest } = true := hs.edgeGate
  have hentry (rest) : exec (.isrEdgeBegin r f) { s with elatch := ⟨r, f⟩, script := rest } =
      .next { t with elatch := ⟨r, f⟩, isr := .edgeSettle, script := rest } := by
    have henabled : (enabled { s with elatch := ⟨r, f⟩, script := rest } .isrEdgeBegin &&
        (⟨r, f⟩ : EdgeLatch) == ⟨r, f⟩) = true := by
      simp [enabled, edgeEnabled, hgate, State.edgePending, hrf]
    have hread : edgeArmEnabled { s with elatch := ⟨r, f⟩, script := rest } a = true :=
      Bool.and_eq_true_iff.mpr ⟨hgate rest, beq_iff_eq.mpr ha⟩
    exact (execIsrEdgeBegin_eq henabled).trans (ha ▸ harm _ rfl hread)
  have hbegin : Plays [.isrEdgeBegin] { s with elatch := ⟨r, f⟩ }
      { t with elatch := ⟨r, f⟩, isr := .edgeSettle } :=
    plays_isrEdgeBegin hrf hs.tpend hentry
  have hend := plays_isrEdgeEnd (s := { t with elatch := ⟨r, f⟩, isr := .edgeSettle }) rfl
  have hback : ({ t with elatch := ⟨r, f⟩, isr := .edgeSettle } : State).leaveEdge = t := by
    rw [State.leaveEdge, ← ht.elatch, ← ht.isr]
  rw [hback] at hend
  exact (hev.append hbegin).append hend

/-- `RISE`: the frame begins or goes on, and the interval is measured from 0 (R57). -/
theorem plays_rise (hq : Quiet s) : Plays Script.rise s { s with done := false, tick := 0 } := by
  have hlatched : s.latchRise = { s with elatch := ⟨true, false⟩ } := by rw [State.latchRise, hq.elatch]
  exact plays_edge (r := true) (f := false) (a := .rise) hq (hq.with_decode _ _ _ _) rfl (hlatched ▸ plays_evRise) rfl
    fun u hu he => execEdgeRise_next.mpr ⟨he, by rw [hu]; rfl⟩

/-- `FALL`: the arm that `FS` selects is taken (R58). -/
theorem plays_fall {a : FallArm} (hs : Quiet s) (ht : Quiet t) (ha : selectFall (readFs s) = a)
    (harm : ∀ u : State, u = { s with elatch := ⟨false, true⟩, script := u.script } →
      fallArmEnabled u a = true →
      exec a.instr u = .next { t with elatch := ⟨false, true⟩, isr := .edgeSettle, script := u.script }) :
    Plays Script.fall s t := by
  have hlatched : s.latchFall = { s with elatch := ⟨false, true⟩ } := by rw [State.latchFall, hs.elatch]
  refine plays_edge (r := false) (f := true) (a := .fall) hs ht rfl (hlatched ▸ plays_evFall) rfl fun u hu he => ?_
  have hfs : selectFall (readFs u) = a := by rw [hu]; exact ha
  calc exec .edgeFall u
    _ = exec a.instr u := hfs ▸ execEdgeFall_eq he
    _ = _ := harm u hu (Bool.and_eq_true_iff.mpr ⟨he, beq_iff_eq.mpr hfs⟩)

end Sys2Proof.Machine
end

section
/-! SUPPORT. The NEC macros of R49: the leader, one bit, the bits of a code, a whole frame. -/

namespace Sys2Proof.Machine

variable {s : State}

/-- What the falling edge selects, read off the Decoder's state (R43). -/
theorem selectFall_readFs (h : s.params.idxMax = 32) : selectFall (readFs s) =
    if s.done = true then .idle
    else if s.idx.val = 32 then .full
    else if s.tick < s.params.t1 then .bit0
    else if s.tick < s.params.tHdr then .bit1
    else if s.tick < s.params.tGap then (if s.acc = 0 ∧ s.idx.val = 0 then .hdrOk else .hdrErr)
    else .gap := by
  rw [readFs, selectFall_fields, h]
  obtain ⟨h1, hc⟩ | ⟨h1, h2, hc⟩ | ⟨h1, h2, h3, hc⟩ | ⟨h1, h2, h3, hc⟩ := classOf_cases s.params s.tick
  · simp [h1, hc]
  · simp [h1, h2, hc]
  · simp [h1, h2, h3, hc]
  · simp [h1, h2, h3, hc]

/-- The arm that shifts the bit `b` in. -/
def bitArm (b : Bool) : FallArm := if b then .bit1 else .bit0

/-- FALL_BIT0 and FALL_BIT1 differ in the bit they shift in only (R61, R62). -/
theorem exec_bitArm {b : Bool} (h : fallArmEnabled s (bitArm b) = true) :
    exec (bitArm b).instr s = .next (s.enterEdge.shiftIn b).countBit := by
  cases b with
  | false => exact execFallBit0_next.mpr ⟨h, rfl⟩
  | true => exact execFallBit1_next.mpr ⟨h, rfl⟩

/-- What the NEC macros are played on: a quiet state, `T1` and `THDR` at their defaults (R5), `tick` in its width. -/
structure NecReady (s : State) : Prop where
  quiet : Quiet s
  t1 : s.params.t1 = 8
  tHdr : s.params.tHdr = 20
  tick : s.tick < 2 ^ s.params.tickW

namespace NecReady

theorem with_decode (h : NecReady s) (acc : Nat) (idx : Fin 33) (done : Bool) {tick : Nat}
    (htick : tick < 2 ^ s.params.tickW) : NecReady { s with acc := acc, idx := idx, done := done, tick := tick } :=
  ⟨h.quiet.with_decode acc idx done tick, h.t1, h.tHdr, htick⟩

theorem idxMax (h : NecReady s) : s.params.idxMax = 32 := by
  obtain ⟨_, _, _, _, _, hmax, _⟩ := h.quiet.valid
  exact hmax

/-- An `acc` of 32 bits fits (R13). -/
theorem two_pow_32_le (h : NecReady s) : 2 ^ 32 ≤ 2 ^ s.params.accW := by
  obtain ⟨_, _, _, _, hacc, hmax, _⟩ := h.quiet.valid
  exact Nat.pow_le_pow_right (by decide) (hmax ▸ hacc)

/-- An interval below the gap threshold fits the Tick Counter (R12). -/
theorem lt_two_pow_tickW (h : NecReady s) {n : Nat} (hn : n < s.params.tGap) : n < 2 ^ s.params.tickW := by
  obtain ⟨_, _, _, hgap, _⟩ := h.quiet.valid
  omega

theorem tHdr_lt_tGap (h : NecReady s) : 20 < s.params.tGap := by
  obtain ⟨_, _, hgap, _⟩ := h.quiet.valid
  exact h.tHdr ▸ hgap

theorem spaceTicks_lt (h : NecReady s) (b : Bool) : Script.spaceTicks b < 2 ^ s.params.tickW := by
  have hgap := h.tHdr_lt_tGap
  exact h.lt_two_pow_tickW (by unfold Script.spaceTicks; split <;> omega)

/-- A mark of any length, then `RISE`: the interval starts at 0 whatever was counted before. -/
theorem plays_mark (h : NecReady s) (n : Nat) :
    Plays (Script.tick n ++ Script.rise) s { s with done := false, tick := 0 } :=
  (plays_tick h.quiet h.tick n).append (plays_rise (h.quiet.with_decode s.acc s.idx s.done _))

/-- A space shorter than `2^TICK_W` that starts at 0 is measured exactly. -/
theorem plays_space (h : NecReady s) (h0 : s.tick = 0) {n : Nat} (hn : n < 2 ^ s.params.tickW) :
    Plays (Script.tick n) s { s with tick := n } := by
  have hplays := plays_tick h.quiet h.tick n
  rwa [h0, Nat.zero_add, Nat.mod_eq_of_lt hn] at hplays

/-- Outside a frame a falling edge is ignored (R59). -/
theorem plays_fall_idle (h : NecReady s) (hd : s.done = true) : Plays Script.fall s s := by
  have hsel : selectFall (readFs s) = .idle := by simp [selectFall_readFs h.idxMax, hd]
  exact plays_fall h.quiet h.quiet hsel fun u hu he => execFallIdle_next.mpr ⟨he, by rw [hu]; rfl⟩

/-- A header interval before the first bit changes nothing (R63). -/
theorem plays_fall_hdrOk (h : NecReady s) (hd : s.done = false) (hi : s.idx = 0) (ha : s.acc = 0)
    (hhdr : 20 ≤ s.tick) (hgap : s.tick < s.params.tGap) : Plays Script.fall s s := by
  have h1 : ¬ s.tick < s.params.t1 := by rw [h.t1]; omega
  have h2 : ¬ s.tick < s.params.tHdr := by rw [h.tHdr]; omega
  have hsel : selectFall (readFs s) = .hdrOk := by simp [selectFall_readFs h.idxMax, hd, hi, ha, h1, h2, hgap]
  exact plays_fall h.quiet h.quiet hsel fun u hu he => execFallHdrOk_next.mpr ⟨he, by rw [hu]; rfl⟩

/-- A falling edge after the space of the bit `b` shifts `b` in and counts it (R61, R62). -/
theorem plays_fall_bit (h : NecReady s) (b : Bool) (hd : s.done = false) (hi : s.idx.val < 32)
    (htick : s.tick = Script.spaceTicks b) :
    Plays Script.fall s { s with
      acc := ((s.acc <<< 1) ||| b.toNat) % 2 ^ s.params.accW, idx := ⟨s.idx.val + 1, Nat.succ_lt_succ hi⟩ } := by
  have hcount (u : State) (hu : u.idx = s.idx) :
      u.countBit = { u with idx := ⟨s.idx.val + 1, Nat.succ_lt_succ hi⟩ } := by
    simp [State.countBit, hu, hi]
  have ht := h.quiet.with_decode (((s.acc <<< 1) ||| b.toNat) % 2 ^ s.params.accW)
    ⟨s.idx.val + 1, Nat.succ_lt_succ hi⟩ s.done s.tick
  have hsel : selectFall (readFs s) = bitArm b := by
    cases b <;> simp [selectFall_readFs h.idxMax, hd, hi.ne, h.t1, h.tHdr, htick, Script.spaceTicks, bitArm]
  refine plays_fall h.quiet ht hsel fun u hu he => (exec_bitArm he).trans ?_
  rw [hcount _ (by rw [hu]; rfl), hu]
  rfl

/-- `NBIT b` inside a frame shifts `b` in, counts it and leaves its space in `tick` (R49). -/
theorem plays_nbit (h : NecReady s) (b : Bool) (hd : s.done = false) (hi : s.idx.val < 32) :
    Plays (Script.nbit b) s { s with
      acc := ((s.acc <<< 1) ||| b.toNat) % 2 ^ s.params.accW
      idx := ⟨s.idx.val + 1, Nat.succ_lt_succ hi⟩
      tick := Script.spaceTicks b } := by
  have hmark : Plays (Script.tick 5 ++ Script.rise) s { s with tick := 0 } := hd ▸ h.plays_mark 5
  have hzero : NecReady { s with tick := 0 } := h.with_decode s.acc s.idx s.done (Nat.two_pow_pos _)
  have hspace : NecReady { s with tick := Script.spaceTicks b } :=
    h.with_decode s.acc s.idx s.done (h.spaceTicks_lt b)
  exact (hmark.append (hzero.plays_space rfl (h.spaceTicks_lt b))).append (hspace.plays_fall_bit b hd hi rfl)

/-- `NLEAD` from an idle state opens a frame: the falling edge before it is ignored, and its space is a valid header
(R59, R57, R63). -/
theorem plays_nlead (h : NecReady s) (hgap : s.params.tGap = 60) (hd : s.done = true) (hi : s.idx = 0)
    (ha : s.acc = 0) : Plays Script.nlead s { s with done := false, tick := 45 } := by
  have hfit : 45 < 2 ^ s.params.tickW := h.lt_two_pow_tickW (by omega)
  have hzero : NecReady { s with done := false, tick := 0 } := h.with_decode s.acc s.idx false (Nat.two_pow_pos _)
  have hspace : NecReady { s with done := false, tick := 45 } := h.with_decode s.acc s.idx false hfit
  have hheader := hspace.plays_fall_hdrOk rfl hi ha (show 20 ≤ 45 by decide) (show 45 < s.params.tGap by omega)
  have hmark := ((h.plays_fall_idle hd).append (h.plays_mark 90)).append (hzero.plays_space rfl hfit)
  rw [← List.append_assoc] at hmark
  exact hmark.append hheader

end NecReady

/-- Shifting bit `n` of `v` in after the bits above it leaves the bits from `n` up (R61, R62). -/
theorem shiftRight_succ_shiftIn (v n : Nat) : (v >>> (n + 1)) <<< 1 ||| (v.testBit n).toNat = v >>> n := by
  refine Nat.eq_of_testBit_eq fun i => ?_
  cases i with
  | zero => cases hb : v.testBit n <;> simp [hb]
  | succ i => simp [Nat.add_right_comm n 1 i, Nat.add_assoc, Nat.testBit_bool_toNat]

namespace NecReady

/-- The last `n` bits of `v` and `NSTOP`, played where the bits above them are in `acc` already: the frame is complete
and `acc` is `v`. -/
theorem plays_bitsFrom_nstop (h : NecReady s) {v n : Nat} (hv : v < 2 ^ 32) (hd : s.done = false)
    (hi : s.idx.val + n = 32) (ha : s.acc = v >>> n) :
    Plays (Script.bitsFrom v 0 n ++ Script.nstop) s { s with acc := v, idx := 32, tick := 0 } := by
  induction n generalizing s with
  | zero =>
    have hacc : s.acc = v := ha
    have hidx : s.idx = 32 := Fin.ext hi
    simpa only [Script.bitsFrom, Script.nstop, List.nil_append, hd, hacc, hidx] using h.plays_mark 5
  | succ n ih =>
    have hlt : s.idx.val < 32 := by omega
    have hfit : v >>> n < 2 ^ s.params.accW :=
      ((Nat.shiftRight_le v n).trans_lt hv).trans_le h.two_pow_32_le
    have hbit := h.plays_nbit (v.testBit (0 + n)) hd hlt
    rw [Nat.zero_add, ha, shiftRight_succ_shiftIn, Nat.mod_eq_of_lt hfit] at hbit
    have hnext : NecReady { s with
        acc := v >>> n, idx := ⟨s.idx.val + 1, Nat.succ_lt_succ hlt⟩, tick := Script.spaceTicks (v.testBit n) } :=
      h.with_decode (v >>> n) _ s.done (h.spaceTicks_lt _)
    have hrest := ih hnext hd (by simp only; omega) rfl
    simpa only [Script.bitsFrom, Nat.zero_add, List.append_assoc] using hbit.append hrest

end NecReady

/-- Settles O58: the leader opens the frame, the 32 bits are shifted in one by one, and the stop mark zeroes `tick`. -/
theorem necFrameDecodesToItsCode : Obligations.NecFrameDecodesToItsCode := by
  intro s v rest hq hd hi ha h1 hhdr hgap htick hv hs
  have h : NecReady s := ⟨hq, h1, hhdr, htick⟩
  have hopen : NecReady { s with done := false, tick := 45 } :=
    h.with_decode s.acc s.idx false (h.lt_two_pow_tickW (by omega))
  have hnone : s.acc = v >>> 32 := by rw [ha, Nat.shiftRight_eq_div_pow, Nat.div_eq_of_lt hv]
  have hbits := hopen.plays_bitsFrom_nstop hv rfl (by simp [hi]) hnone
  have hframe := (h.plays_nlead hgap hd hi ha).append hbits
  rw [← List.append_assoc] at hframe
  exact hframe.runSteps_eq hs

end Sys2Proof.Machine
end

section
/-! SUPPORT. The encoding: the command table under distinct codes, decode of encode, encode of decode (R40 to R48). -/

namespace Sys2Proof

variable {p : Params} {v : CwWord} {a : CmdArm} {w : Selector}

/-! The command table (R44). -/

/-- What the command arm `a` asks of the command word: its own code, or, for CMD_OTHER, no code of the table (R44). -/
def CmdArm.Matches (p : Params) (v : CwWord) : CmdArm → Prop
  | .posA => v = p.codeA
  | .posB => v = p.codeB
  | .posC => v = p.codeC
  | .toggle => v = p.codeT
  | .other => v ∉ p.codes

/-- Every code of the table fits the command word (R5). -/
theorem Params.Valid.code_lt (hp : p.Valid) (hv : v ∈ p.codes) : v < 2 ^ p.accW := by
  obtain ⟨_, _, _, _, hacc, hmax, _, _, _, hcodes⟩ := hp
  exact (hcodes v hv).trans_le (Nat.pow_le_pow_right (by decide) (hmax ▸ hacc))

/-- The arm selected is one the word matches. -/
theorem selectCmd_matches (p : Params) (v : CwWord) : (selectCmd p v).Matches p v := by
  unfold selectCmd
  split_ifs with hA hB hC hT
  · exact hA
  · exact hB
  · exact hC
  · exact hT
  · simp [CmdArm.Matches, Params.codes, hA, hB, hC, hT]

/-- The codes are distinct (R5), so no word matches two arms. -/
theorem CmdArm.Matches.selectCmd_eq (hp : p.Valid) (h : a.Matches p v) : selectCmd p v = a := by
  obtain ⟨_, _, _, _, _, _, _, _, hnodup, _⟩ := hp
  simp only [List.nodup_cons, List.mem_cons, List.not_mem_nil, or_false, not_or] at hnodup
  obtain ⟨⟨hAB, hAC, hAT⟩, ⟨hBC, hBT⟩, hCT, _⟩ := hnodup
  cases a with
  | posA => subst h; rw [selectCmd, if_pos rfl]
  | posB => subst h; rw [selectCmd, if_neg (Ne.symm hAB), if_pos rfl]
  | posC => subst h; rw [selectCmd, if_neg (Ne.symm hAC), if_neg (Ne.symm hBC), if_pos rfl]
  | toggle => subst h; rw [selectCmd, if_neg (Ne.symm hAT), if_neg (Ne.symm hBT), if_neg (Ne.symm hCT), if_pos rfl]
  | other =>
    simp only [CmdArm.Matches, Params.codes, List.mem_cons, List.not_mem_nil, or_false, not_or] at h
    obtain ⟨hA, hB, hC, hT⟩ := h
    rw [selectCmd, if_neg hA, if_neg hB, if_neg hC, if_neg hT]

theorem selectCmd_eq_iff (hp : p.Valid) : selectCmd p v = a ↔ a.Matches p v :=
  ⟨fun h => h ▸ selectCmd_matches p v, fun h => h.selectCmd_eq hp⟩

/-- Settles O6: an arm is selected exactly where the word matches it, and no code has a bit at or above bit 32. -/
theorem commandWordMatchesWholeCodes : Obligations.CommandWordMatchesWholeCodes := by
  intro p v hp
  refine ⟨selectCmd_eq_iff hp, selectCmd_eq_iff hp, selectCmd_eq_iff hp, selectCmd_eq_iff hp, selectCmd_eq_iff hp,
    fun hwide => (selectCmd_eq_iff hp).mpr fun hmem => ?_⟩
  obtain ⟨_, _, _, _, _, _, _, _, _, hcodes⟩ := hp
  exact absurd (hcodes v hmem) (Nat.not_lt.mpr hwide)

/-! Decode of encode. -/

theorem wellFormed_cmdOther_iff : (Instr.cmdOther v).wellFormed p = true ↔ v < 2 ^ p.accW ∧ v ∉ p.codes := by
  simp [Instr.wellFormed]

/-- A command word decodes to the arm it matches. -/
theorem decode_cw_of_matches (hp : p.Valid) (hv : v < 2 ^ p.accW) (h : a.Matches p v) :
    decode p (.cw v) = .instr (a.instr v) := by
  rw [decode, if_pos hv, h.selectCmd_eq hp]

/-- The word of a latch that is not empty decodes to the entry with its bits (R41, R47 (b)). -/
theorem decode_elWord (p : Params) {r f : Bool} (h : (r || f) = true) :
    decode p (.el (elWord r f)) = .instr (.isrEdgeBegin r f) := by
  cases r <;> cases f
  · cases h
  · rfl
  · rfl
  · rfl

/-- `FG = 0000` decodes by `CALIB_VALID` (R46). -/
theorem decode_fg_zero (p : Params) :
    decode p (.fg 0b0000) = .instr (if p.calibValid = true then .bootOk else .bootHalt) := rfl

/-- Settles O2: instruction by instruction; a code decodes to its own arm because the codes are distinct command
words. -/
theorem decodeOfEncodeIsTheInstruction : Obligations.DecodeOfEncodeIsTheInstruction := by
  intro p i hp hi
  cases i with
  | isrEdgeBegin r f => exact decode_elWord p hi
  | bootOk =>
    have hintact : p.calibValid = true := hi
    rw [encode, decode_fg_zero, if_pos hintact]
  | bootHalt =>
    have hcorrupt : ¬ p.calibValid = true := by simpa [Instr.wellFormed] using hi
    rw [encode, decode_fg_zero, if_neg hcorrupt]
  | cmdPosA => exact decode_cw_of_matches hp (hp.code_lt (by simp [Params.codes])) (a := .posA) rfl
  | cmdPosB => exact decode_cw_of_matches hp (hp.code_lt (by simp [Params.codes])) (a := .posB) rfl
  | cmdPosC => exact decode_cw_of_matches hp (hp.code_lt (by simp [Params.codes])) (a := .posC) rfl
  | cmdToggle => exact decode_cw_of_matches hp (hp.code_lt (by simp [Params.codes])) (a := .toggle) rfl
  | cmdOther v =>
    obtain ⟨hlt, hnone⟩ := wellFormed_cmdOther_iff.mp hi
    exact decode_cw_of_matches hp hlt (a := .other) hnone
  | actEnter q | actExit q => cases q <;> rfl
  | evRise | evFall | evTick | isrTick | isrEdgeEnd => rfl
  | edgeDouble | edgeRise | edgeFall | edgeNone => rfl
  | fallIdle | fallFull | fallBit0 | fallBit1 | fallHdrOk | fallHdrErr | fallGap => rfl
  | dispClear | dispWait | dispRearm | dispDispatch => rfl

/-! Encode of decode. -/

/-- The answer of the decoder to the word `w` is faithful: an instruction is well formed, and `w` is its encoding but
for the don't-care bits of `FS` (R43). -/
def Decoded.Faithful (p : Params) (w : Selector) : Decoded → Prop
  | .instr i => i.wellFormed p = true ∧ ((∀ u, w ≠ .fs u) → encode p i = w)
  | .reject _ => True

/-- An instruction is a faithful answer to its own encoding. -/
theorem Decoded.Faithful.of_encode {i : Instr} (hi : i.wellFormed p = true) (hw : encode p i = w) :
    (Decoded.instr i).Faithful p w := ⟨hi, fun _ => hw⟩

theorem flag_cases : ∀ w : FlagWord, w = 0 ∨ w = 1 := by decide

theorem twoBits_cases : ∀ w : BitVec 2, w = 0b00 ∨ w = 0b01 ∨ w = 0b10 ∨ w = 0b11 := by decide

/-- The position bits of `FG` are read as the position they encode, and `00` as none (R45). -/
theorem decodeAt_faithful {mk : Position → Instr} {hi : BitVec 2} (hwf : ∀ q, (mk q).wellFormed p = true)
    (henc : ∀ q, encode p (mk q) = .fg (hi ++ encodePosition q)) (pp : BitVec 2) :
    (decodeAt mk pp).Faithful p (.fg (hi ++ pp)) := by
  obtain rfl | rfl | rfl | rfl := twoBits_cases pp
  · trivial
  · exact .of_encode (hwf .a) (henc .a)
  · exact .of_encode (hwf .b) (henc .b)
  · exact .of_encode (hwf .c) (henc .c)

/-- `10pp` and `11pp` are their two high bits and `pp` (R46). -/
theorem fg_eq_act_append : ∀ w : FgWord, w &&& 0b1100 = 0b1000 → w = 0b10#2 ++ w.extractLsb' 0 2 := by decide

theorem fg_eq_dwell_append : ∀ w : FgWord, w &&& 0b1100 = 0b1100 → w = 0b11#2 ++ w.extractLsb' 0 2 := by decide

/-- `FG = 0000` is the boot step that `CALIB_VALID` allows (R46). -/
theorem decodeFg_zero_faithful (p : Params) : (decodeFg p 0b0000).Faithful p (.fg 0b0000) := by
  cases hc : p.calibValid with
  | true =>
    have hread : decodeFg p 0b0000 = .instr .bootOk := by simp [decodeFg, hc]
    exact hread ▸ .of_encode hc rfl
  | false =>
    have hread : decodeFg p 0b0000 = .instr .bootHalt := by simp [decodeFg, hc]
    exact hread ▸ .of_encode (by simp [Instr.wellFormed, hc]) rfl

theorem decodeFg_faithful (p : Params) (w : FgWord) : (decodeFg p w).Faithful p (.fg w) := by
  by_cases h0 : w = 0b0000
  · exact h0 ▸ decodeFg_zero_faithful p
  rw [decodeFg, if_neg h0]
  split_ifs with h1 h2 h3 h4 h5 hact hdwell
  · exact .of_encode rfl (by rw [h1, encode])
  · exact .of_encode rfl (by rw [h2, encode])
  · exact .of_encode rfl (by rw [h3, encode])
  · exact .of_encode rfl (by rw [h4, encode])
  · trivial
  · have hread := decodeAt_faithful (p := p) (mk := .actEnter) (fun _ => rfl) (fun _ => rfl) (w.extractLsb' 0 2)
    rwa [← fg_eq_act_append w hact] at hread
  · have hread := decodeAt_faithful (p := p) (mk := .actExit) (fun _ => rfl) (fun _ => rfl) (w.extractLsb' 0 2)
    rwa [← fg_eq_dwell_append w hdwell] at hread
  · trivial

/-- A command word decodes to the arm it matches, whose code it is (R44). -/
theorem decode_cw_faithful (p : Params) (v : CwWord) : (decode p (.cw v)).Faithful p (.cw v) := by
  rw [decode]
  split_ifs with hv
  · have harm := selectCmd_matches p v
    cases ha : selectCmd p v <;> rw [ha] at harm
    case other => exact .of_encode (wellFormed_cmdOther_iff.mpr ⟨hv, harm⟩) rfl
    all_goals exact .of_encode rfl (congrArg Selector.cw (Eq.symm harm))
  · trivial

/-- Whatever word is decoded, in whatever format, the answer is faithful. -/
theorem decode_faithful (p : Params) (w : Selector) : (decode p w).Faithful p w := by
  cases w with
  | ev w =>
    obtain rfl | rfl | rfl | rfl := twoBits_cases w
    · trivial
    all_goals exact .of_encode rfl rfl
  | tk w =>
    obtain rfl | rfl := flag_cases w
    · trivial
    · exact .of_encode rfl rfl
  | el w =>
    obtain rfl | rfl | rfl | rfl := twoBits_cases w
    · trivial
    all_goals exact .of_encode rfl rfl
  | arm w =>
    obtain rfl | rfl | rfl | rfl := twoBits_cases w
    all_goals exact .of_encode rfl rfl
  | fs w =>
    have hwf : (selectFall w).instr.wellFormed p = true := by cases selectFall w <;> rfl
    exact ⟨hwf, fun hfs => absurd rfl (hfs w)⟩
  | ip w =>
    obtain rfl | rfl := flag_cases w
    · trivial
    · exact .of_encode rfl rfl
  | fg w => exact decodeFg_faithful p w
  | cw v => exact decode_cw_faithful p v

/-- Settles O3: every answer of the decoder is faithful, so an instruction it answers is. -/
theorem decodedWordIsTheEncoding : Obligations.DecodedWordIsTheEncoding := by
  intro p w i _ hread
  have hfaithful := decode_faithful p w
  rwa [hread] at hfaithful

/-- Settles O1: the words are closed, so the decoder is evaluated on them. -/
theorem selectorWordsDecode : Obligations.SelectorWordsDecode := by
  unfold Obligations.SelectorWordsDecode
  decide

end Sys2Proof
end

section
/-! SUPPORT. The operands as the state holds them: the interval classes, the falling-edge selector, a NEC bit. -/

namespace Sys2Proof.Machine

/-- The class of an interval tells where it lies: `T1 < THDR < TGAP`, so one of the four half-open ranges holds it
(R42). -/
theorem classOf_iff {p : Params} (hp : p.Valid) (d : Nat) :
    (classOf p d = 0b00 ↔ d < p.t1) ∧ (classOf p d = 0b01 ↔ p.t1 ≤ d ∧ d < p.tHdr) ∧
    (classOf p d = 0b10 ↔ p.tHdr ≤ d ∧ d < p.tGap) ∧ (classOf p d = 0b11 ↔ p.tGap ≤ d) := by
  obtain ⟨_, h1, h2, _⟩ := hp
  obtain ⟨hd, hc⟩ | ⟨hlo, hd, hc⟩ | ⟨_, hlo, hd, hc⟩ | ⟨_, _, hlo, hc⟩ := classOf_cases p d
  all_goals
    simp only [hc, BitVec.reduceEq, true_iff, false_iff]
    omega

/-- Settles O4: the four ranges, and the default bounds by evaluation. -/
theorem intervalClassesAreHalfOpen : Obligations.IntervalClassesAreHalfOpen :=
  ⟨fun _ d hp => classOf_iff hp d, fun _ => by simp [Params.defaults, ticksOfUs]⟩

/-- Settles O5: the fields of `FS`, read off the Decoder's state. -/
theorem fallingEdgeSelectorOrder : Obligations.FallingEdgeSelectorOrder :=
  fun _ h => selectFall_readFs h

/-- Settles O57: the mark of `NBIT` ends with `tick` at 0, its space is measured, and its falling edge shifts the bit in. -/
theorem necBitIsShiftedIn : Obligations.NecBitIsShiftedIn := by
  intro s b rest hq hd hi h1 hhdr htick hs
  have hready : NecReady s := ⟨hq, h1, hhdr, htick⟩
  exact ⟨⟨s.idx.val + 1, Nat.succ_lt_succ hi⟩, rfl, (hready.plays_nbit b hd hi).runSteps_eq hs⟩

end Sys2Proof.Machine
end

section
/-! SUPPORT. The time base: what EV_TICK and ISR_TICK answer, condition by condition. -/

namespace Sys2Proof.Machine

variable {s t : State}

theorem booted_iff : s.booted = true ↔ s.fg ≠ .boot ∧ s.fg ≠ .halt := by simp [State.booted]

/-- A period's end is seen where BOOT_OK has run and the timer ticks (R50). -/
theorem exec_evTick_pending (hb : s.booted = true) (hm : s.timer.mode = .tick) :
    exec .evTick s = .next (s.setPending true) :=
  execEvTick_next.mpr (if_pos (by simp [hb, hm]))

/-- Anywhere else it leaves no trace (R50). -/
theorem exec_evTick_lost (h : s.booted = true → s.timer.mode ≠ .tick) : exec .evTick s = .next s :=
  execEvTick_next.mpr (if_neg (by simpa using h))

theorem tickEnabled_iff :
    tickEnabled s = true ↔ s.gie = true ∧ s.isr = .none ∧ s.timer.tie = true ∧ s.tpend = true := by
  simp [tickEnabled, and_assoc]

/-- Settles O11: EV_TICK's condition is `booted` in TickMode, and each clause decides it. -/
theorem periodEndSetsPending : Obligations.PeriodEndSetsPending := by
  intro s
  refine ⟨fun hboot hhalt hm => exec_evTick_pending (booted_iff.mpr ⟨hboot, hhalt⟩) hm, fun h => exec_evTick_lost ?_⟩
  intro hb hm
  obtain ⟨hboot, hhalt⟩ := booted_iff.mp hb
  obtain hpwm | hat | hat := h
  · cases hm.symm.trans hpwm
  · exact hboot hat
  · exact hhalt hat

/-- Settles O12: the four conditions enable the handler, and writing `isr = None` writes what `isr` holds. -/
theorem tickHandlerCountsModulo : Obligations.TickHandlerCountsModulo := by
  intro s hgie hisr htie hpend
  rw [← hisr]
  exact execIsrTick_next.mpr ⟨tickEnabled_iff.mpr ⟨hgie, hisr, htie, hpend⟩, rfl⟩

/-- Settles O13: a lost EV_TICK changes nothing, and one that sets `tpend` keeps its own condition and finds it set. -/
theorem pendingTicksMerge : Obligations.PendingTicksMerge := by
  intro s t ht
  by_cases h : s.booted = true ∧ s.timer.mode = .tick
  · obtain ⟨hb, hm⟩ := h
    cases (exec_evTick_pending hb hm).symm.trans ht
    exact exec_evTick_pending (s := s.setPending true) hb hm
  · rw [not_and] at h
    cases (exec_evTick_lost h).symm.trans ht
    exact ht

end Sys2Proof.Machine
end

section
/-! SUPPORT. The frames of the handler steps: what each row of the tick and edge handlers leaves unchanged. -/

namespace Sys2Proof.Machine

variable {s t : State} {i : Instr}

/-- The arms with no effect of their own (R59, R60, R63, R66) are the entry alone. -/
theorem entryArm_next (hi : i = .edgeNone ∨ i = .fallIdle ∨ i = .fallFull ∨ i = .fallHdrOk)
    (h : exec i s = .next t) : t = s.enterEdge := by
  obtain rfl | rfl | rfl | rfl := hi
  · exact (execEdgeNone_next.mp h).2.symm
  · exact (execFallIdle_next.mp h).2.symm
  · exact (execFallFull_next.mp h).2.symm
  · exact (execFallHdrOk_next.mp h).2.symm

/-- The arms that take a bit in shift it and count it (R61, R62). -/
theorem bitArm_next (hi : i = .fallBit0 ∨ i = .fallBit1) (h : exec i s = .next t) :
    ∃ b, t = (s.enterEdge.shiftIn b).countBit := by
  obtain rfl | rfl := hi
  · exact ⟨false, (execFallBit0_next.mp h).2.symm⟩
  · exact ⟨true, (execFallBit1_next.mp h).2.symm⟩

theorem isrTick_frame (h : exec .isrTick s = .next t) : t = { s with tick := t.tick, tpend := t.tpend } := by
  obtain ⟨_, rfl⟩ := execIsrTick_next.mp h
  rfl

theorem isrEdgeEnd_frame (h : exec .isrEdgeEnd s = .next t) : t = { s with elatch := t.elatch, isr := t.isr } := by
  obtain ⟨_, rfl⟩ := execIsrEdgeEnd_next.mp h
  rfl

theorem entryArm_frame (hi : i = .edgeNone ∨ i = .fallIdle ∨ i = .fallFull ∨ i = .fallHdrOk)
    (h : exec i s = .next t) : t = { s with isr := t.isr } := by
  obtain rfl := entryArm_next hi h
  rfl

theorem edgeRise_frame (h : exec .edgeRise s = .next t) :
    t = { s with isr := t.isr, done := t.done, tick := t.tick } := by
  obtain ⟨_, rfl⟩ := execEdgeRise_next.mp h
  rfl

theorem bitArm_frame (hi : i = .fallBit0 ∨ i = .fallBit1) (h : exec i s = .next t) :
    t = { s with isr := t.isr, acc := t.acc, idx := t.idx } := by
  obtain ⟨b, rfl⟩ := bitArm_next hi h
  rfl

/-- Toggles touch the indicator and the pin trace only, however many there are (R56). -/
theorem edgeDouble_frame (h : exec .edgeDouble s = .next t) :
    t = { s with isr := t.isr, ind := t.ind, obs := t.obs, dtr := t.dtr } := by
  obtain ⟨_, rfl⟩ := execEdgeDouble_next.mp h
  rw [State.toggles_eq]
  rfl

/-- Under either reset policy, and for any number of toggles (R64). -/
theorem fallHdrErr_frame (h : exec .fallHdrErr s = .next t) :
    t = { s with isr := t.isr, ind := t.ind, obs := t.obs, dtr := t.dtr, acc := t.acc, idx := t.idx } := by
  obtain ⟨_, rfl⟩ := execFallHdrErr_next.mp h
  rw [State.toggles_eq, afterHdrErr_eq]
  rfl

/-- Under either gap policy (R65). -/
theorem fallGap_frame (h : exec .fallGap s = .next t) :
    t = { s with isr := t.isr, dtr := t.dtr, acc := t.acc, idx := t.idx } := by
  obtain ⟨_, rfl⟩ := execFallGap_next.mp h
  rw [afterGap_eq]
  rfl

/-- Settles O48, one frame per row or group of rows. -/
theorem handlerStepsFrame : Obligations.HandlerStepsFrame := fun _ _ =>
  ⟨isrTick_frame, isrEdgeEnd_frame, fun _ => entryArm_frame, edgeRise_frame, fun _ => bitArm_frame,
    edgeDouble_frame, fallHdrErr_frame, fallGap_frame⟩

end Sys2Proof.Machine
end

section
/-! SUPPORT. The edge handler: the arm its latch and the falling-edge selector open, what the entry leaves, and the
return. -/

namespace Sys2Proof.Machine

variable {s t : State} {i : Instr} {m : Mnemonic}

theorem edgeGate_iff : edgeGate s = true ↔ s.gie = true ∧ s.isr = .none ∧ s.eie = true := by
  simp [edgeGate, and_assoc]

/-- Behind the open gate the latch opens the arm it selects (R41). -/
theorem edgeArmEnabled_of_latch {r f : Bool} (hg : edgeGate s = true) (hl : s.elatch = ⟨r, f⟩) :
    edgeArmEnabled s (selectEdge (elWord r f)) = true := by
  have hread : readEl s = elWord r f := by rw [readEl, hl]
  rw [edgeArmEnabled, hg, hread, beq_self_eq_true]
  rfl

/-- Behind the open gate a latched falling edge opens the arm that `FS` selects (R43). -/
theorem fallArmEnabled_of_latch {a : FallArm} (hg : edgeGate s = true) (hl : s.elatch = ⟨false, true⟩)
    (ha : selectFall (readFs s) = a) : fallArmEnabled s a = true :=
  Bool.and_eq_true_iff.mpr ⟨edgeArmEnabled_of_latch hg hl, beq_iff_eq.mpr ha⟩

/-- An idle Decoder selects FALL_IDLE, whatever `IDX_MAX` is (R43). -/
theorem selectFall_of_done (hd : s.done = true) : selectFall (readFs s) = .idle := by
  rw [readFs, selectFall_fields, if_pos hd]

/-- A header interval in a frame that is not full is told by the bits taken so far (R43). -/
theorem selectFall_of_header (hp : s.params.Valid) (hd : s.done = false) (hi : s.idx.val < 32)
    (hlo : s.params.tHdr ≤ s.tick) (hhi : s.tick < s.params.tGap) :
    selectFall (readFs s) = if s.acc = 0 ∧ s.idx.val = 0 then .hdrOk else .hdrErr := by
  obtain ⟨_, h1, _, _, _, hmax, _⟩ := hp
  have hnot1 : ¬ s.tick < s.params.t1 := by omega
  simp [selectFall_readFs hmax, hd, hi.ne, hnot1, hlo.not_gt, hhi]

/-- An interval of at least `TGAP` in a frame that is not full is a gap (R43). -/
theorem selectFall_of_gap (hp : s.params.Valid) (hd : s.done = false) (hi : s.idx.val < 32)
    (hlo : s.params.tGap ≤ s.tick) : selectFall (readFs s) = .gap := by
  obtain ⟨_, h1, h2, _, _, hmax, _⟩ := hp
  have hnot1 : ¬ s.tick < s.params.t1 := by omega
  have hnot2 : ¬ s.tick < s.params.tHdr := by omega
  simp [selectFall_readFs hmax, hd, hi.ne, hnot1, hnot2, hlo.not_gt]

/-- In a frame that is not full, the arm of a bit shifts it in and counts it (R61, R62). -/
theorem exec_bitArm_shifts {b : Bool} (hg : edgeGate s = true) (hl : s.elatch = ⟨false, true⟩)
    (hi : s.idx.val < 32) (hsel : selectFall (readFs s) = bitArm b) :
    ∃ k : Fin 33, k.val = s.idx.val + 1 ∧ exec (bitArm b).instr s = .next { s with
      isr := .edgeSettle, acc := ((s.acc <<< 1) ||| b.toNat) % 2 ^ s.params.accW, idx := k } := by
  refine ⟨_, State.countBit_val hi, ?_⟩
  exact exec_bitArm (fallArmEnabled_of_latch hg hl hsel)

/-- Every row taken inside ISR_EDGE_BEGIN enters the handler, and changes the Decoder, the indicator and the traces at
most (R55, R86). -/
theorem Took.edgeEntry_frame (h : Took s m t) (hm : m.isEdgeEntry = true) :
    t = { s with isr := .edgeSettle, tick := t.tick, done := t.done, acc := t.acc, idx := t.idx, ind := t.ind,
                 obs := t.obs, dtr := t.dtr } := by
  cases h with
  | edgeDouble => rw [State.toggles_eq]; rfl
  | fallHdrErr => rw [State.toggles_eq, afterHdrErr_eq]; rfl
  | fallGap => rw [afterGap_eq]; rfl
  | edgeRise | edgeNone | fallIdle | fallFull | fallBit0 | fallBit1 | fallHdrOk => rfl
  | _ => cases hm

/-- The entry and EDGE_FALL are taken as rows inside the entry. -/
theorem TakenAs.isEdgeEntry (h : TakenAs s i m) (hi : i = .edgeFall ∨ ∃ r f, i = .isrEdgeBegin r f) :
    m.isEdgeEntry = true := by
  have hedge : ∀ a : EdgeArm, a.instr.mnemonic.isEdgeEntry = true := by intro a; cases a <;> rfl
  have hfall : ∀ a : FallArm, a.instr.mnemonic.isEdgeEntry = true := by intro a; cases a <;> rfl
  obtain rfl | ⟨_, rfl⟩ | ⟨rfl, _⟩ | ⟨_, _, _, _, rfl | ⟨_, rfl⟩⟩ := h
  · obtain rfl | ⟨_, _, rfl⟩ := hi <;> rfl
  · exact hfall _
  · obtain h | ⟨_, _, h⟩ := hi <;> cases h
  · exact hedge _
  · exact hfall _

theorem edgeEntry_frame (hi : i = .edgeFall ∨ ∃ r f, i = .isrEdgeBegin r f) (h : exec i s = .next t) :
    t = { s with isr := .edgeSettle, tick := t.tick, done := t.done, acc := t.acc, idx := t.idx, ind := t.ind,
                 obs := t.obs, dtr := t.dtr } := by
  obtain ⟨m, hm, hn⟩ := exec_took h
  exact hm.edgeEntry_frame (hn.isEdgeEntry hi)

/-- No arm of EDGE_FALL writes the interval or `done`: the rising edge does (R57, R58). -/
theorem edgeFall_keeps (h : exec .edgeFall s = .next t) : t.tick = s.tick ∧ t.done = s.done := by
  have htick : ∀ a : FallArm, a.instr.mnemonic ∉ [.isrTick, .edgeRise] := by intro a; cases a <;> decide
  have hdone : ∀ a : FallArm, a.instr.mnemonic ∉ [.edgeRise, .dispRearm] := by intro a; cases a <;> decide
  have hm := edgeFall_took h
  exact ⟨hm.tick_writers.resolve_right (htick _), hm.done_writers.resolve_right (hdone _)⟩

/-- The return needs the handler in progress and nothing else (R67, R90). -/
theorem exec_isrEdgeEnd (h : s.isr = .edgeSettle) : exec .isrEdgeEnd s = .next s.leaveEdge :=
  execIsrEdgeEnd_next.mpr ⟨beq_iff_eq.mpr h, rfl⟩

/-- The arm of a latch that is not empty (R41). -/
theorem instr_selectEdge : ∀ r f : Bool, (r || f) = true → (selectEdge (elWord r f)).instr =
    if r = true then (if f = true then .edgeDouble else .edgeRise) else .edgeFall := by
  decide

/-- Settles O15: the latch opens the entry and selects its arm; the frame of the entry keeps the latch and `fg`. -/
theorem edgeEntryTakesTheLatchedArm : Obligations.EdgeEntryTakesTheLatchedArm := by
  intro s r f hgie hisr heie hl hrf
  have hg := edgeGate_iff.mpr ⟨hgie, hisr, heie⟩
  have henabled : (enabled s .isrEdgeBegin && s.elatch == ⟨r, f⟩) = true := by
    simp [enabled, edgeEnabled, hg, State.edgePending, hl, hrf]
  have harm : exec (.isrEdgeBegin r f) s = exec (selectEdge (elWord r f)).instr s := execIsrEdgeBegin_eq henabled
  obtain ⟨t, ht⟩ := edgeArm_moves (edgeArmEnabled_of_latch hg hl)
  have hentry := harm.trans ht
  have hframe := edgeEntry_frame (.inr ⟨r, f, rfl⟩) hentry
  refine ⟨instr_selectEdge r f hrf ▸ harm, t, hentry, ?_⟩
  rw [hframe]
  exact ⟨rfl, rfl, rfl⟩

/-- Settles O16: `toggles_eq` says what the toggles leave, however many there are. -/
theorem doubleEdgeBlinksAndKeepsDecodeState : Obligations.DoubleEdgeBlinksAndKeepsDecodeState := by
  intro s hgie hisr heie hl
  have hg := edgeGate_iff.mpr ⟨hgie, hisr, heie⟩
  exact execEdgeDouble_next.mpr ⟨edgeArmEnabled_of_latch hg hl, by rw [State.toggles_eq]; rfl⟩

/-- Settles O18: EDGE_FALL is the arm of `FS`, whose rows the Decoder's state decides, and that arm is enabled. -/
theorem fallingEdgeRunsTheFirstRow : Obligations.FallingEdgeRunsTheFirstRow := by
  intro s hmax hgie hisr heie hl
  have henabled : enabled s .edgeFall = true := edgeArmEnabled_of_latch (edgeGate_iff.mpr ⟨hgie, hisr, heie⟩) hl
  have harm : exec .edgeFall s = exec (selectFall (readFs s)).instr s := execEdgeFall_eq henabled
  obtain ⟨t, ht⟩ := edgeFall_moves henabled
  refine ⟨?_, t, ht, edgeFall_keeps ht⟩
  simp only [selectFall_readFs hmax, apply_ite FallArm.instr] at harm
  exact harm

/-- Settles O24: the selector gives FALL_HDR_ERR where a bit was taken; toggles and reset policy have equations. -/
theorem headerInMidFrameIsFlagged : Obligations.HeaderInMidFrameIsFlagged := by
  intro s hp hgie hisr heie hl hd hi hlo hhi hbit
  have hg := edgeGate_iff.mpr ⟨hgie, hisr, heie⟩
  have hmid : ¬ (s.acc = 0 ∧ s.idx.val = 0) := by
    rintro ⟨hacc, hidx⟩
    exact hbit.elim (· hacc) (· (Fin.ext hidx))
  have hsel : selectFall (readFs s) = .hdrErr := by rw [selectFall_of_header hp hd hi hlo hhi, if_neg hmid]
  exact execFallHdrErr_next.mpr
    ⟨fallArmEnabled_of_latch hg hl hsel, by rw [State.toggles_eq, afterHdrErr_eq]; rfl⟩

/-- Settles O49: the frame of the rows inside the entry, and what no falling-edge arm writes. -/
theorem edgeEntryFrame : Obligations.EdgeEntryFrame := by
  intro i s t hi h
  have hframe := edgeEntry_frame hi h
  have hisr : t.isr = .edgeSettle := by rw [hframe]
  exact ⟨hisr ▸ hframe, fun hfall => edgeFall_keeps (hfall ▸ h)⟩

/-- Settles O10: setting one bit of the latch is writing the latch with the other bit kept. -/
theorem edgeEventsSetTheLatch : Obligations.EdgeEventsSetTheLatch := fun _ =>
  ⟨execEvRise_next.mpr rfl, execEvFall_next.mpr rfl⟩

/-- Settles O17: the latch 10 opens EDGE_RISE in every state of the Decoder. -/
theorem risingEdgeStartsAnInterval : Obligations.RisingEdgeStartsAnInterval := by
  intro s hgie hisr heie hl
  exact execEdgeRise_next.mpr ⟨edgeArmEnabled_of_latch (edgeGate_iff.mpr ⟨hgie, hisr, heie⟩) hl, rfl⟩

/-- Settles O19: `done` alone selects FALL_IDLE, which is the entry alone. -/
theorem idleFallIsIgnored : Obligations.IdleFallIsIgnored := by
  intro s hgie hisr heie hl hd
  have hg := edgeGate_iff.mpr ⟨hgie, hisr, heie⟩
  exact execFallIdle_next.mpr ⟨fallArmEnabled_of_latch hg hl (selectFall_of_done hd), rfl⟩

/-- Settles O20: `idx = IDX_MAX` selects FALL_FULL, which is the entry alone. -/
theorem fullFallIsIgnored : Obligations.FullFallIsIgnored := by
  intro s hmax hgie hisr heie hl hd hi
  have hg := edgeGate_iff.mpr ⟨hgie, hisr, heie⟩
  have hsel : selectFall (readFs s) = .full := by simp [selectFall_readFs hmax, hd, hi]
  exact execFallFull_next.mpr ⟨fallArmEnabled_of_latch hg hl hsel, rfl⟩

/-- Settles O21: the selector gives the arm of the bit 0. -/
theorem shortIntervalAppendsZero : Obligations.ShortIntervalAppendsZero := by
  intro s hmax hgie hisr heie hl hd hi h1
  have hg := edgeGate_iff.mpr ⟨hgie, hisr, heie⟩
  have hsel : selectFall (readFs s) = bitArm false := by simp [selectFall_readFs hmax, hd, hi.ne, h1, bitArm]
  have hshift := exec_bitArm_shifts hg hl hi hsel
  simp only [Bool.toNat_false, Nat.or_zero] at hshift
  exact hshift

/-- Settles O22: the selector gives the arm of the bit 1. -/
theorem longIntervalAppendsOne : Obligations.LongIntervalAppendsOne := by
  intro s hmax hgie hisr heie hl hd hi h1 h2
  have hg := edgeGate_iff.mpr ⟨hgie, hisr, heie⟩
  have hsel : selectFall (readFs s) = bitArm true := by
    simp [selectFall_readFs hmax, hd, hi.ne, h1.not_gt, h2, bitArm]
  exact exec_bitArm_shifts hg hl hi hsel

/-- Settles O23: before the first bit the selector gives FALL_HDR_OK, which is the entry alone. -/
theorem headerAtFrameStartIsAccepted : Obligations.HeaderAtFrameStartIsAccepted := by
  intro s hp hgie hisr heie hl hd hlo hhi hacc hidx
  have hg := edgeGate_iff.mpr ⟨hgie, hisr, heie⟩
  have hsel : selectFall (readFs s) = .hdrOk := by
    rw [selectFall_of_header hp hd (by simp [hidx]) hlo hhi, if_pos ⟨hacc, by simp [hidx]⟩]
  exact execFallHdrOk_next.mpr ⟨fallArmEnabled_of_latch hg hl hsel, rfl⟩

/-- Settles O25: the selector gives FALL_GAP, and the policy decides what it does. -/
theorem gapAbandonsTheFrame : Obligations.GapAbandonsTheFrame := by
  intro s hp hgie hisr heie hl hd hi hlo
  have hg := edgeGate_iff.mpr ⟨hgie, hisr, heie⟩
  have hgap : exec .fallGap s = .next (afterGap s.enterEdge) :=
    execFallGap_next.mpr ⟨fallArmEnabled_of_latch hg hl (selectFall_of_gap hp hd hi hlo), rfl⟩
  rw [hgap, afterGap_eq]
  constructor
  · intro habort
    simp [habort, State.enterEdge]
  · intro hignore
    simp [hignore, State.enterEdge]

/-- Settles O26: an empty latch opens EDGE_NONE behind the gate, and no edge is pending for ISR_EDGE_BEGIN. -/
theorem emptyLatchArmChangesOnlyIsr : Obligations.EmptyLatchArmChangesOnlyIsr := by
  intro s hl
  constructor
  · intro hgie hisr heie
    exact execEdgeNone_next.mpr ⟨edgeArmEnabled_of_latch (edgeGate_iff.mpr ⟨hgie, hisr, heie⟩) hl, rfl⟩
  · intro r f t h
    have hpending : s.edgePending = true := (Bool.and_eq_true_iff.mp (exec_enabled h)).2
    simp [State.edgePending, hl] at hpending

/-- Settles O27: leaving the handler writes the latch and `isr`. -/
theorem edgeHandlerReturnClearsTheLatch : Obligations.EdgeHandlerReturnClearsTheLatch :=
  fun _ => exec_isrEdgeEnd

/-- Settles O28: an event writes the latch only, and the return clears it whole. -/
theorem settleWindowEdgesAreLost : Obligations.SettleWindowEdgesAreLost := by
  intro s t hisr hev
  obtain ⟨l, rfl⟩ : ∃ l, t = { s with elatch := l } := by
    obtain h | h := hev
    · exact ⟨_, (execEvRise_next.mp h).symm⟩
    · exact ⟨_, (execEvFall_next.mp h).symm⟩
  exact (exec_isrEdgeEnd hisr).trans (exec_isrEdgeEnd hisr).symm

end Sys2Proof.Machine
end

section
/-! SUPPORT. Fair runs: a step that stays enabled until it is taken is taken, and so the edge handler returns. -/

namespace Sys2Proof.Machine

variable {s t : State} {i : Instr} {m : Mnemonic} {σ : Nat → State} {ι : Nat → Instr}

/-- Weak fairness, used step by step: what no other step disables is taken in the end (R109). -/
theorem FairTo.taken (hf : FairTo σ ι m)
    (hkeep : ∀ k, enabled (σ k) m = true → (ι k).mnemonic ≠ m → enabled (σ (k + 1)) m = true)
    {n : Nat} (h : enabled (σ n) m = true) : ∃ k, n ≤ k ∧ (ι k).mnemonic = m := by
  by_contra hnever
  push Not at hnever
  have hstays : ∀ k, n ≤ k → enabled (σ k) m = true := fun k hk => by
    induction k, hk using Nat.le_induction with
    | base => exact h
    | succ k hk ih => exact hkeep k ih (hnever k hk)
  obtain ⟨k, hk, htaken⟩ := hf n hstays
  exact hnever k hk htaken

/-- The rows that write `isr` are those inside the entry, and the return. -/
theorem Took.isr_kept (h : Took s m t) (hentry : ¬ m.isEdgeEntry = true) (hreturn : m ≠ .isrEdgeEnd) :
    t.isr = s.isr := by
  refine h.isr_writers.resolve_right fun hw => ?_
  have hrow : m = .isrEdgeEnd ∨ m.isEdgeEntry = true := by
    refine (?_ : ∀ x ∈ _, x = Mnemonic.isrEdgeEnd ∨ x.isEdgeEntry = true) m hw
    decide
  exact hrow.elim hreturn hentry

/-- Only the return ends a handler in progress: an entry would leave it in progress too (R67, R86). -/
theorem settle_kept (h : exec i s = .next t) (hs : s.isr = .edgeSettle) (hi : i.mnemonic ≠ .isrEdgeEnd) :
    t.isr = .edgeSettle := by
  obtain ⟨m, hm, hn⟩ := exec_took h
  by_cases hentry : m.isEdgeEntry = true
  · rw [hm.edgeEntry_frame hentry]
  · have hreturn : m ≠ .isrEdgeEnd := fun hm => hi ((hn.own (by rw [hm]; decide)).trans hm)
    exact (hm.isr_kept hentry hreturn).trans hs

theorem eq_isrEdgeEnd (h : i.mnemonic = .isrEdgeEnd) : i = .isrEdgeEnd := by
  match i, h with | .isrEdgeEnd, _ => rfl

/-- Settles O60: the return stays enabled until it is taken, so a fair run takes it. -/
theorem fairRunReturnsFromTheHandler : Obligations.FairRunReturnsFromTheHandler := by
  intro σ ι hrun hfair n hn
  have hkeep (k : Nat) (h : enabled (σ k) .isrEdgeEnd = true) (hi : (ι k).mnemonic ≠ .isrEdgeEnd) :
      enabled (σ (k + 1)) .isrEdgeEnd = true :=
    beq_iff_eq.mpr (settle_kept (hrun.moves k) (beq_iff_eq.mp h) hi)
  have hto : FairTo σ ι .isrEdgeEnd := hfair _ (by decide) rfl
  obtain ⟨k, hk, hreturn⟩ := hto.taken hkeep (beq_iff_eq.mpr hn)
  have hmove : exec .isrEdgeEnd (σ k) = .next (σ (k + 1)) := eq_isrEdgeEnd hreturn ▸ hrun.moves k
  obtain ⟨_, hleft⟩ := execIsrEdgeEnd_next.mp hmove
  exact ⟨k + 1, Nat.lt_succ_of_le hk, hleft ▸ rfl, hleft ▸ rfl⟩

end Sys2Proof.Machine
end

section
/-! SUPPORT. The foreground: the frames of its rows, the command its dispatch selects, and the loop it follows. -/

namespace Sys2Proof.Machine

variable {s t : State} {i : Instr} {m : Mnemonic} {a : CmdArm}

/-! Frames: what each foreground row leaves unchanged. -/

/-- Under either loop-top setting (R69). -/
theorem dispClear_frame (h : exec .dispClear s = .next t) :
    t = { s with fg := t.fg, acc := t.acc, elatch := t.elatch } := by
  obtain ⟨_, rfl⟩ := execDispClear_next.mp h
  rw [loopTop_eq]
  rfl

theorem dispWait_frame (h : exec .dispWait s = .next t) : t = { s with fg := t.fg } := by
  obtain ⟨_, rfl⟩ := execDispWait_next.mp h
  rfl

theorem dispRearm_frame (h : exec .dispRearm s = .next t) :
    t = { s with fg := t.fg, idx := t.idx, done := t.done } := by
  obtain ⟨_, rfl⟩ := execDispRearm_next.mp h
  rfl

/-- A position command goes to the driver, and does nothing else (R73 to R75). -/
theorem positionCmd_next (hi : i = .cmdPosA ∨ i = .cmdPosB ∨ i = .cmdPosC) (h : exec i s = .next t) :
    ∃ p, t = s.goto (.act p) := by
  obtain rfl | rfl | rfl := hi
  · exact ⟨.a, (execCmdPosA_next.mp h).2.symm⟩
  · exact ⟨.b, (execCmdPosB_next.mp h).2.symm⟩
  · exact ⟨.c, (execCmdPosC_next.mp h).2.symm⟩

theorem positionCmd_frame (hi : i = .cmdPosA ∨ i = .cmdPosB ∨ i = .cmdPosC) (h : exec i s = .next t) :
    t = { s with fg := t.fg } := by
  obtain ⟨p, rfl⟩ := positionCmd_next hi h
  rfl

theorem cmdToggle_frame (h : exec .cmdToggle s = .next t) : t = { s with fg := t.fg, ind := t.ind, obs := t.obs } := by
  obtain ⟨_, rfl⟩ := execCmdToggle_next.mp h
  rfl

theorem cmdOther_frame {v : CwWord} (h : exec (.cmdOther v) s = .next t) :
    t = { s with fg := t.fg, idx := t.idx, dtr := t.dtr } := by
  obtain ⟨_, rfl⟩ := execCmdOther_next.mp h
  rfl

/-- The rows taken inside DISP_DISPATCH, together (R72). -/
theorem Took.dispatch_frame (h : Took s m t) (hm : m.isDispatch = true) :
    t = { s with fg := t.fg, ind := t.ind, obs := t.obs, idx := t.idx, dtr := t.dtr } := by
  cases h with
  | cmdPosA | cmdPosB | cmdPosC | cmdToggle | cmdOther => rfl
  | _ => cases hm

theorem isDispatch_cmdArm (a : CmdArm) (v : CwWord) : (a.instr v).mnemonic.isDispatch = true := by cases a <;> rfl

theorem dispDispatch_frame (h : exec .dispDispatch s = .next t) :
    t = { s with fg := t.fg, ind := t.ind, obs := t.obs, idx := t.idx, dtr := t.dtr } := by
  have harm := (execDispDispatch_eq (execDispDispatch_enabled h)).symm.trans h
  exact (cmdArm_took harm).dispatch_frame (isDispatch_cmdArm _ _)

theorem actEnter_frame {p : Position} (h : exec (.actEnter p) s = .next t) :
    t = { s with fg := t.fg, tmr := t.tmr, tpend := t.tpend, eie := t.eie, act := t.act, obs := t.obs } := by
  obtain ⟨_, rfl⟩ := execActEnter_next.mp h
  rfl

theorem actExit_frame {p : Position} (h : exec (.actExit p) s = .next t) :
    t = { s with fg := t.fg, tmr := t.tmr, elatch := t.elatch, eie := t.eie, act := t.act, obs := t.obs } := by
  obtain ⟨_, rfl⟩ := execActExit_next.mp h
  rfl

theorem bootOk_frame (h : exec .bootOk s = .next t) :
    t = { s with fg := t.fg, tmr := t.tmr, tpend := t.tpend, elatch := t.elatch, eie := t.eie, gie := t.gie } := by
  obtain ⟨_, rfl⟩ := execBootOk_next.mp h
  rfl

theorem bootHalt_frame (h : exec .bootHalt s = .next t) : t = { s with fg := t.fg, dtr := t.dtr } := by
  obtain ⟨_, rfl⟩ := execBootHalt_next.mp h
  rfl

/-- Settles O50, one frame per row or group of rows. -/
theorem foregroundStepsFrame : Obligations.ForegroundStepsFrame := fun _ _ =>
  ⟨dispClear_frame, dispWait_frame, dispRearm_frame, fun _ => positionCmd_frame, cmdToggle_frame,
    fun _ => cmdOther_frame, dispDispatch_frame, fun _ => actEnter_frame, fun _ => actExit_frame, bootOk_frame,
    bootHalt_frame⟩

/-! The dispatch of the command word. -/

/-- At L4 the word in `acc` opens the arm it selects (R72). -/
theorem cmdArmEnabled_of_selectCmd (hfg : s.fg = .l4) (hisr : s.isr = .none) (ha : selectCmd s.params s.acc = a) :
    cmdArmEnabled s a = true :=
  Bool.and_eq_true_iff.mpr ⟨fgAt_iff.mpr ⟨hfg, hisr⟩, beq_iff_eq.mpr ha⟩

/-- A word outside the table selects CMD_OTHER, whether or not the codes are distinct (R77). -/
theorem selectCmd_of_not_mem {p : Params} {v : CwWord} (hv : v ∉ p.codes) : selectCmd p v = .other := by
  have hmatch := selectCmd_matches p v
  cases ha : selectCmd p v with
  | other => rfl
  | posA | posB | posC | toggle =>
    rw [ha, CmdArm.Matches] at hmatch
    exact absurd (by simp [Params.codes, hmatch]) hv

/-- Settles O32: DISP_DISPATCH is the arm that `acc` selects, that arm is enabled, and the frame keeps `acc`. -/
theorem dispatchTakesTheArmOfTheCode : Obligations.DispatchTakesTheArmOfTheCode := by
  intro s hfg hisr
  have henabled : enabled s .dispDispatch = true := fgAt_iff.mpr ⟨hfg, hisr⟩
  have harm : exec .dispDispatch s = exec ((selectCmd s.params s.acc).instr s.acc) s := execDispDispatch_eq henabled
  obtain ⟨t, ht⟩ := dispDispatch_moves henabled
  refine ⟨?_, t, ht, by rw [dispDispatch_frame ht]⟩
  simp only [selectCmd, apply_ite (CmdArm.instr s.acc)] at harm
  exact harm

/-- Settles O33: among distinct codes, each position code selects its own arm. -/
theorem positionCommandsInvokeTheDriver : Obligations.PositionCommandsInvokeTheDriver := by
  intro s hp hfg hisr
  have hopen {a : CmdArm} (ha : a.Matches s.params s.acc) : cmdArmEnabled s a = true :=
    cmdArmEnabled_of_selectCmd hfg hisr (ha.selectCmd_eq hp)
  refine ⟨fun hA => ?_, fun hB => ?_, fun hC => ?_⟩
  · exact execCmdPosA_next.mpr ⟨hopen (a := .posA) hA, rfl⟩
  · exact execCmdPosB_next.mpr ⟨hopen (a := .posB) hB, rfl⟩
  · exact execCmdPosC_next.mpr ⟨hopen (a := .posC) hC, rfl⟩

/-- Settles O34: `CODE_T` selects CMD_TOGGLE, which toggles once. -/
theorem toggleCommandInvertsTheIndicator : Obligations.ToggleCommandInvertsTheIndicator := by
  intro s hp hfg hisr hT
  have hsel : selectCmd s.params s.acc = .toggle := (selectCmd_eq_iff hp).mpr hT
  exact execCmdToggle_next.mpr ⟨cmdArmEnabled_of_selectCmd hfg hisr hsel, rfl⟩

/-- Settles O35: a word outside the table selects CMD_OTHER. -/
theorem unrecognizedCommandIsSilent : Obligations.UnrecognizedCommandIsSilent := by
  intro s hfg hisr hother
  have hopen : enabled s .cmdOther = true := cmdArmEnabled_of_selectCmd hfg hisr (selectCmd_of_not_mem hother)
  exact execCmdOther_next.mpr ⟨Bool.and_eq_true_iff.mpr ⟨hopen, beq_self_eq_true _⟩, rfl⟩

/-! The loop. -/

theorem State.goto_of_fg_eq {pos : FgPos} (h : s.fg = pos) : s.goto pos = s := by
  subst h
  rfl

theorem exec_dispWait (hfg : s.fg = .l2) (hisr : s.isr = .none) :
    exec .dispWait s = .next (s.goto (if s.frameComplete then .l3 else .l2)) :=
  execDispWait_next.mpr ⟨fgAt_iff.mpr ⟨hfg, hisr⟩, rfl⟩

/-- Settles O29: at L1 the step is enabled, and the loop-top variant writes the latch only. -/
theorem loopTopClearsTheAccumulator : Obligations.LoopTopClearsTheAccumulator := by
  intro s hfg hisr
  exact execDispClear_next.mpr ⟨fgAt_iff.mpr ⟨hfg, hisr⟩, by rw [loopTop_eq]; rfl⟩

/-- Settles O30: the frame is complete at 32 bits; until then the wait goes to where it stands. -/
theorem waitEndsAtThirtyTwoBits : Obligations.WaitEndsAtThirtyTwoBits := by
  intro s hmax hfg hisr
  refine ⟨fun hfull => ?_, fun hspin => ?_⟩
  · rw [exec_dispWait hfg hisr, if_pos ((frameComplete_iff hmax).mpr hfull)]
    rfl
  · rw [exec_dispWait hfg hisr, if_neg (mt (frameComplete_iff hmax).mp hspin), State.goto_of_fg_eq hfg]

/-- Settles O31: at L3 the step is enabled, and its updates are the ones written. -/
theorem rearmKeepsTheAccumulator : Obligations.RearmKeepsTheAccumulator := by
  intro s hfg hisr
  exact execDispRearm_next.mpr ⟨fgAt_iff.mpr ⟨hfg, hisr⟩, rfl⟩

/-- A foreground row is taken by a foreground step: no arm of the edge handler is one (R86). -/
theorem TakenAs.isFg (h : TakenAs s i m) (hm : m.isFg = true) : i.mnemonic.isFg = true := by
  have hedge : ∀ a : EdgeArm, a.instr.mnemonic.isFg ≠ true := by intro a; cases a <;> decide
  have hfall : ∀ a : FallArm, a.instr.mnemonic.isFg ≠ true := by intro a; cases a <;> decide
  obtain rfl | ⟨_, rfl⟩ | ⟨rfl, _⟩ | ⟨_, _, _, _, rfl | ⟨_, rfl⟩⟩ := h
  · exact hm
  · exact absurd hm (hfall _)
  · rfl
  · exact absurd hm (hedge _)
  · exact absurd hm (hfall _)

/-- One move of the foreground: the bring-up's (R98, R99) and the loop's (R68); L2 is left with the frame complete. -/
inductive FgMove (s : State) : FgPos → FgPos → Prop where
  | boot : FgMove s .boot .l1
  | halt : FgMove s .boot .halt
  | clear : FgMove s .l1 .l2
  | wait (h : s.frameComplete = true) : FgMove s .l2 .l3
  | rearm : FgMove s .l3 .l4
  | command : FgMove s .l4 .l1
  | motion (p : Position) : FgMove s .l4 (.act p)
  | enter (p : Position) : FgMove s (.act p) (.dwell p)
  | exit (p : Position) : FgMove s (.dwell p) .l1

/-- A row enabled at the position that a move starts from makes that move. -/
theorem FgMove.of_fgAt {src dst : FgPos} (hat : fgAt s src = true) (h : FgMove s src dst) : FgMove s s.fg dst :=
  (fgAt_iff.mp hat).1 ▸ h

/-- Every row moves the foreground along the loop or leaves it where it stands (R68). -/
theorem Took.fgMove (h : Took s m t) (hne : t.fg ≠ s.fg) : FgMove s s.fg t.fg := by
  have hfg : m.isFg = true := h.fg_writers.resolve_left hne
  cases h with
  | bootOk he => exact .of_fgAt (Bool.and_eq_true_iff.mp he).1 .boot
  | bootHalt he => exact .of_fgAt (Bool.and_eq_true_iff.mp he).1 .halt
  | dispClear he => exact .of_fgAt he .clear
  | dispWait he =>
    by_cases hfull : s.frameComplete = true
    · rw [if_pos hfull]
      exact .of_fgAt he (.wait hfull)
    · rw [if_neg hfull] at hne
      exact absurd (fgAt_iff.mp he).1.symm hne
  | dispRearm he => exact .of_fgAt he .rearm
  | cmdPosA he => exact .of_fgAt (fgAt_of_cmdArm he) (.motion .a)
  | cmdPosB he => exact .of_fgAt (fgAt_of_cmdArm he) (.motion .b)
  | cmdPosC he => exact .of_fgAt (fgAt_of_cmdArm he) (.motion .c)
  | cmdToggle he => exact .of_fgAt (fgAt_of_cmdArm he) .command
  | cmdOther he => exact .of_fgAt (fgAt_of_cmdArm he) .command
  | actEnter p he => exact .of_fgAt he (.enter p)
  | actExit p he => exact .of_fgAt he (.exit p)
  | _ => cases hfg

/-- The moves as equations on the two positions; a complete frame is one of `IDX_MAX` bits (R16). -/
theorem FgMove.cases_loop {src dst : FgPos} (h : FgMove s src dst) :
    (src = .boot ∧ (dst = .l1 ∨ dst = .halt)) ∨ (src = .l1 ∧ dst = .l2) ∨
    (src = .l2 ∧ dst = .l3 ∧ s.idx.val = s.params.idxMax) ∨ (src = .l3 ∧ dst = .l4) ∨
    (src = .l4 ∧ (dst = .l1 ∨ ∃ p, dst = .act p)) ∨
    (∃ p, src = .act p ∧ dst = .dwell p) ∨ (∃ p, src = .dwell p ∧ dst = .l1) := by
  cases h with
  | wait hfull => simpa [State.frameComplete] using hfull
  | _ => simp

/-- Settles O36: the row taken is a foreground row, and each of them makes one move of the loop. -/
theorem foregroundFollowsTheLoop : Obligations.ForegroundFollowsTheLoop := by
  intro i s t h hne
  obtain ⟨m, hm, hn⟩ := exec_took h
  exact ⟨hn.isFg (hm.fg_writers.resolve_left hne), (hm.fgMove hne).cases_loop⟩

end Sys2Proof.Machine
end

section
/-! SUPPORT. The actuator driver: the two steps of a motion, what can be taken during a dwell, and its end in a fair
run. -/

namespace Sys2Proof.Machine

variable {s t : State} {i : Instr} {m : Mnemonic} {p : Position} {σ : Nat → State} {ι : Nat → Instr}

/-- Settles O37: at ACT(p) the step is enabled, and its updates are the ones written. -/
theorem motionStartsThePulse : Obligations.MotionStartsThePulse := fun _ _ hfg hisr =>
  ⟨execActEnter_next.mpr ⟨fgAt_iff.mpr ⟨hfg, hisr⟩, rfl⟩, record_pwmCfg _ _⟩

/-- Settles O38: at DWELL(p) the step is enabled, and its updates are the ones written. -/
theorem motionEndsWithTheTimeBaseRestored : Obligations.MotionEndsWithTheTimeBaseRestored := fun _ _ hfg hisr =>
  ⟨execActExit_next.mpr ⟨fgAt_iff.mpr ⟨hfg, hisr⟩, rfl⟩, record_tickCfg _⟩

/-- Settles O39: the timer's writers are three agents' steps, and the invariant gives the configuration that each of the
driver's finds. -/
theorem onlyTheDriverSwitchesTheTimer : Obligations.OnlyTheDriverSwitchesTheTimer := by
  intro i s t h ht hne
  obtain ⟨m, hm, htaken⟩ := exec_took ht
  have hwriter : m ∈ [.bootOk, .actEnter, .actExit] := hm.tmr_writers.resolve_left hne
  have hagents : [.bootOk, .actEnter, .actExit] ⊆ Mnemonic.steps := by decide
  have hstep : m ∈ Mnemonic.steps := hagents hwriter
  have hruns : RunsIn i m := htaken.runsIn (htaken.own hstep ▸ hstep)
  simp only [List.mem_cons, List.not_mem_nil, or_false] at hwriter
  obtain rfl | rfl | rfl := hwriter
  · obtain rfl : i = .bootOk := hruns
    obtain ⟨_, rfl⟩ := execBootOk_next.mp ht
    exact .inl ⟨rfl, rfl⟩
  · obtain ⟨p, rfl⟩ := hruns
    obtain ⟨hat, rfl⟩ := execActEnter_next.mp ht
    obtain ⟨hbooted, hloop⟩ := inLoop_iff.mp (inLoop_of_fgAt rfl hat)
    obtain ⟨htick, _⟩ := h.tickMode hbooted hloop
    exact .inr (.inl ⟨p, rfl, htick, rfl⟩)
  · obtain ⟨p, rfl⟩ := hruns
    obtain ⟨hat, rfl⟩ := execActExit_next.mp ht
    obtain ⟨hpwm, _⟩ := h.pwmMode p (fgAt_iff.mp hat).1
    exact .inr (.inr ⟨p, rfl, hpwm, rfl⟩)

/-! The dwell. -/

/-- The gate of the edge handler is shut during a dwell (R82). -/
theorem StateInv.not_edgeGate_of_dwell (h : StateInv s) (hd : s.fg = .dwell p) : ¬ edgeGate s = true := by
  intro hg
  obtain ⟨_, _, heie⟩ := edgeGate_iff.mp hg
  exact h.not_dwell_of_eie heie p hd

/-- During a dwell the environment's rows write the latch at most, a period's end being lost in PwmMode (R50), and no
other row is enabled but ACT_EXIT: both handlers are shut out, and the foreground stands at the dwell (R82, R87). -/
theorem Took.during_dwell (ht : Took s m t) (h : StateInv s) (hd : s.fg = .dwell p) :
    (m.isEnv = true ∧ ∃ l, t = { s with elatch := l }) ∨ m = .actExit := by
  obtain ⟨_, _, _, hisr, hpend⟩ := h.pwmMode p hd
  have hshut : ¬ edgeGate s = true := h.not_edgeGate_of_dwell hd
  have haway {pos : FgPos} (hat : fgAt s pos = true) : pos = .dwell p := (fgAt_iff.mp hat).1.symm.trans hd
  cases ht with
  | evRise | evFall | tickLost => exact .inl ⟨rfl, _, rfl⟩
  | tickPending _ hm => exact absurd hd (h.not_dwell_of_tickMode hm p)
  | isrTick he => exact absurd (hpend ▸ (Bool.and_eq_true_iff.mp he).2) Bool.false_ne_true
  | edgeDouble he | edgeRise he | edgeNone he => exact absurd (edgeGate_of_edgeArm he) hshut
  | fallIdle he | fallFull he | fallBit0 he | fallBit1 he | fallHdrOk he | fallHdrErr he | fallGap he =>
    exact absurd (edgeGate_of_fallArm he) hshut
  | isrEdgeEnd he => cases hisr.symm.trans (beq_iff_eq.mp he)
  | bootOk he | bootHalt he => cases haway (Bool.and_eq_true_iff.mp he).1
  | dispClear he | dispWait he | dispRearm he => cases haway he
  | cmdPosA he | cmdPosB he | cmdPosC he | cmdToggle he | cmdOther he => cases haway (fgAt_of_cmdArm he)
  | actEnter _ hat => cases haway hat
  | actExit => exact .inr rfl

theorem exists_actExit (h : i.mnemonic = .actExit) : ∃ p, i = .actExit p := by
  match i, h with | .actExit p, _ => exact ⟨p, rfl⟩

/-- What runs during a dwell: an event of the environment, which writes the latch at most, or the exit from that
dwell. -/
theorem exec_during_dwell (h : StateInv s) (hd : s.fg = .dwell p) (ht : exec i s = .next t) :
    (i.mnemonic.isEnv = true ∧ ∃ l, t = { s with elatch := l }) ∨ i = .actExit p := by
  obtain ⟨m, hm, htaken⟩ := exec_took ht
  have hstep : ∀ m : Mnemonic, m.isEnv = true → m ∈ Mnemonic.steps := by intro m; cases m <;> decide
  obtain ⟨henv, hlatch⟩ | rfl := hm.during_dwell h hd
  · exact .inl ⟨htaken.own (hstep m henv) ▸ henv, hlatch⟩
  · obtain ⟨q, rfl⟩ := exists_actExit (htaken.own (by decide))
    obtain ⟨hat, _⟩ := execActExit_next.mp ht
    obtain rfl : p = q := FgPos.dwell.inj (hd.symm.trans (fgAt_iff.mp hat).1)
    exact .inr rfl

/-- Settles O40: an event keeps all but the latch, so the dwell's masks still hold, and the exit keeps the decode
state. -/
theorem dwellSuspendsTheDecoder : Obligations.DwellSuspendsTheDecoder := by
  intro i s t p h hd ht
  obtain ⟨henv, _, rfl⟩ | rfl := exec_during_dwell h hd ht
  · obtain ⟨_, heie, _, _, hpend⟩ := h.pwmMode p hd
    exact ⟨rfl, rfl, rfl, rfl, .inr ⟨henv, rfl, rfl, rfl, heie, rfl, hpend⟩⟩
  · obtain ⟨_, rfl⟩ := execActExit_next.mp ht
    exact ⟨rfl, rfl, rfl, rfl, .inl ⟨rfl, rfl, rfl, rfl⟩⟩

/-! Fair runs: every dwell ends. -/

/-- ACT_EXIT is enabled exactly during a dwell, which no handler interrupts (R81, R82). -/
theorem StateInv.enabled_actExit_iff (h : StateInv s) : enabled s .actExit = true ↔ ∃ p, s.fg = .dwell p := by
  have hat (p : Position) : fgAt s (.dwell p) = true ↔ s.fg = .dwell p := by
    refine fgAt_iff.trans (and_iff_left_of_imp fun hd => ?_)
    obtain ⟨_, _, _, hisr, _⟩ := h.pwmMode p hd
    exact hisr
  constructor
  · intro he
    simp only [enabled, Bool.or_eq_true, hat] at he
    obtain (ha | hb) | hc := he
    · exact ⟨.a, ha⟩
    · exact ⟨.b, hb⟩
    · exact ⟨.c, hc⟩
  · rintro ⟨p, hd⟩
    cases p <;> simp [enabled, (hat _).mpr hd]

/-- A run keeps the invariant that it starts with. -/
theorem Run.inv (hrun : Run σ ι) (h : StateInv (σ 0)) (n : Nat) : StateInv (σ n) := by
  induction n with
  | zero => exact h
  | succ n ih => exact exec_keeps_inv ih (hrun.moves n)

/-- Settles O59: ACT_EXIT stays enabled until it is taken, so a fair run takes it. -/
theorem fairRunEndsEveryDwell : Obligations.FairRunEndsEveryDwell := by
  intro σ ι h hrun hfair n p hd
  have hkeep (k : Nat) (he : enabled (σ k) .actExit = true) (hi : (ι k).mnemonic ≠ .actExit) :
      enabled (σ (k + 1)) .actExit = true := by
    obtain ⟨q, hq⟩ := (hrun.inv h k).enabled_actExit_iff.mp he
    obtain ⟨_, l, hlatch⟩ | hexit := exec_during_dwell (hrun.inv h k) hq (hrun.moves k)
    · exact (hrun.inv h (k + 1)).enabled_actExit_iff.mpr ⟨q, hlatch ▸ hq⟩
    · exact absurd (congrArg Instr.mnemonic hexit) hi
  have hto : FairTo σ ι .actExit := hfair _ (by decide) rfl
  obtain ⟨k, hk, htaken⟩ := hto.taken hkeep ((hrun.inv h n).enabled_actExit_iff.mpr ⟨p, hd⟩)
  obtain ⟨q, hq⟩ := exists_actExit htaken
  have hmove : exec (.actExit q) (σ k) = .next (σ (k + 1)) := hq ▸ hrun.moves k
  obtain ⟨_, hleft⟩ := execActExit_next.mp hmove
  exact ⟨k + 1, Nat.lt_succ_of_le hk, hleft ▸ rfl, hleft ▸ rfl, hleft ▸ rfl, hleft ▸ rfl⟩

end Sys2Proof.Machine
end

section
/-! SUPPORT. Interrupts and contexts: what may run while a handler is in progress, and what the order of two pending
handlers decides. -/

namespace Sys2Proof.Machine

variable {s : State} {i : Instr} {m : Mnemonic}

/-- A handler in progress disables both entries, whose gates ask `isr = None`, and the foreground, whose positions do
too; the return and the environment are left (R87). -/
theorem enabled_of_handler (hisr : s.isr ≠ .none) (he : enabled s m = true) : m = .isrEdgeEnd ∨ m.isEnv = true := by
  have hshut : ¬ edgeGate s = true := by
    intro hg
    obtain ⟨_, hnone, _⟩ := edgeGate_iff.mp hg
    exact hisr hnone
  have haway {pos : FgPos} : ¬ fgAt s pos = true := fun hat => hisr (fgAt_iff.mp hat).2
  cases m with
  | evRise | evFall | evTick => exact .inr rfl
  | isrEdgeEnd => exact .inl rfl
  | isrTick =>
    obtain ⟨_, hnone, _⟩ := tickEnabled_iff.mp he
    exact absurd hnone hisr
  | isrEdgeBegin => exact absurd (Bool.and_eq_true_iff.mp he).1 hshut
  | edgeDouble | edgeRise | edgeFall | edgeNone => exact absurd (edgeGate_of_edgeArm he) hshut
  | fallIdle | fallFull | fallBit0 | fallBit1 | fallHdrOk | fallHdrErr | fallGap =>
    exact absurd (edgeGate_of_fallArm he) hshut
  | bootOk | bootHalt => exact absurd (Bool.and_eq_true_iff.mp he).1 haway
  | dispClear | dispWait | dispRearm | dispDispatch => exact absurd he haway
  | cmdPosA | cmdPosB | cmdPosC | cmdToggle | cmdOther => exact absurd (fgAt_of_cmdArm he) haway
  | actEnter | actExit =>
    simp only [enabled, Bool.or_eq_true] at he
    obtain (ha | hb) | hc := he
    · exact absurd ha haway
    · exact absurd hb haway
    · exact absurd hc haway

/-- The environment may always move (R6). -/
theorem env_moves (s : State) (h : i.mnemonic.isEnv = true) : ∃ t, exec i s = .next t := by
  cases i with
  | evRise | evFall | evTick => exact ⟨_, rfl⟩
  | _ => cases h

theorem isr_eq_edgeSettle (h : s.isr ≠ .none) : s.isr = .edgeSettle := by
  cases hisr : s.isr with
  | none => exact absurd hisr h
  | edgeSettle => rfl

/-- Settles O46: whatever completes was enabled, and a handler in progress enables the return and the environment only.
ISR_TICK needs `isr = None` and keeps it. -/
theorem handlersDoNotNest : Obligations.HandlersDoNotNest := by
  refine ⟨fun s hisr => ⟨fun i t h => ?_, fun i hi => ?_⟩, fun s t h => ?_⟩
  · exact (enabled_of_handler hisr (exec_enabled h)).imp_left eq_isrEdgeEnd
  · obtain rfl | henv := hi
    · exact ⟨_, exec_isrEdgeEnd (isr_eq_edgeSettle hisr)⟩
    · exact env_moves s henv
  · obtain ⟨he, rfl⟩ := execIsrTick_next.mp h
    obtain ⟨_, hnone, _⟩ := tickEnabled_iff.mp he
    exact hnone

/-! The order of two pending handlers. -/

/-- Where the edge handler is enabled, only `edge_first` holds the tick handler back (R88). -/
theorem admitted_isrTick_iff (h : edgeEnabled s = true) :
    admitted s .isrTick = true ↔ s.params.irqOrder ≠ .edgeFirst := by
  unfold admitted
  cases s.params.irqOrder <;> simp [h, Mnemonic.isEdgeEntry]

/-- Where the tick handler is enabled, only `tick_first` holds the edge handler back (R88). -/
theorem admitted_isrEdgeBegin_iff (h : tickEnabled s = true) :
    admitted s .isrEdgeBegin = true ↔ s.params.irqOrder ≠ .tickFirst := by
  unfold admitted
  cases s.params.irqOrder <;> simp [h, Mnemonic.isEdgeEntry]

/-- The entry on the latch 10 restarts the interval (R55, R57). -/
theorem exec_isrEdgeBegin_rise (hgie : s.gie = true) (hisr : s.isr = .none) (heie : s.eie = true)
    (hl : s.elatch = ⟨true, false⟩) :
    exec (.isrEdgeBegin true false) s = .next { s with isr := .edgeSettle, done := false, tick := 0 } := by
  obtain ⟨harm, _⟩ := edgeEntryTakesTheLatchedArm s true false hgie hisr heie hl rfl
  exact harm.trans (risingEdgeStartsAnInterval s hgie hisr heie hl)

/-- Settles O47: the rising edge zeroes the interval, so the tick counts in the new one only when it is served after the
handler has returned. -/
theorem handlerOrderDecidesTheTick : Obligations.HandlerOrderDecidesTheTick := by
  intro s hgie hisr heie htie hpend hl hw
  have htick : tickEnabled s = true := tickEnabled_iff.mpr ⟨hgie, hisr, htie, hpend⟩
  have hedge : edgeEnabled s = true := by
    simp [edgeEnabled, edgeGate_iff.mpr ⟨hgie, hisr, heie⟩, State.edgePending, hl]
  refine ⟨admitted_isrTick_iff hedge, admitted_isrEdgeBegin_iff htick, ?_, ?_⟩
  · exact ⟨_, _, tickHandlerCountsModulo s hgie hisr htie hpend, exec_isrEdgeBegin_rise hgie rfl heie hl, rfl, rfl⟩
  · exact ⟨_, _, _, exec_isrEdgeBegin_rise hgie hisr heie hl, exec_isrEdgeEnd rfl,
      tickHandlerCountsModulo _ hgie rfl htie hpend, Nat.mod_eq_of_lt hw, rfl⟩

end Sys2Proof.Machine
end

section
/-! SUPPORT. The boot, the fail-stop, and the lines of a motion played one after another. -/

namespace Sys2Proof.Machine

variable {s t : State} {i : Instr} {m : Mnemonic} {p q : Position}

/-! Boot (R98, R99). -/

/-- Settles O43: at BOOT with valid calibration data the step is enabled, and its updates are the ones written. -/
theorem bootEnablesTheBlock : Obligations.BootEnablesTheBlock := fun _ hfg hvalid hisr =>
  ⟨execBootOk_next.mpr ⟨Bool.and_eq_true_iff.mpr ⟨fgAt_iff.mpr ⟨hfg, hisr⟩, hvalid⟩, rfl⟩, record_tickCfg _⟩

/-- Settles O44: at BOOT with corrupt calibration data the step is enabled, and its updates are the ones written. -/
theorem corruptCalibrationHalts : Obligations.CorruptCalibrationHalts := by
  intro s hfg hcorrupt hisr
  have henabled : enabled s .bootHalt = true :=
    Bool.and_eq_true_iff.mpr ⟨fgAt_iff.mpr ⟨hfg, hisr⟩, by rw [hcorrupt]; rfl⟩
  exact execBootHalt_next.mpr ⟨henabled, rfl⟩

/-! The lines of the foreground. -/

/-- `IRQ_ORDER` orders the handlers only and never holds a foreground line back (R88). -/
theorem admitted_of_isFg (hm : m.isFg = true) : admitted s m = true := by
  have hnot : ∀ m : Mnemonic, m.isFg = true → m.isEdgeEntry = false ∧ (m == .isrTick) = false := by
    intro m; cases m <;> decide
  obtain ⟨hentry, htick⟩ := hnot m hm
  unfold admitted
  split
  · rfl
  · rw [hentry]; rfl
  · rw [htick]; rfl

/-- The word of a foreground step is the position, which FG holds (R46). -/
theorem heldWord_of_isFg (hstep : m ∈ Mnemonic.steps) (hm : m.isFg = true) : heldWord s m = .fg (readFg s) := by
  cases m with
  | bootOk | bootHalt | dispClear | dispWait | dispRearm | dispDispatch | actEnter | actExit => rfl
  | cmdPosA | cmdPosB | cmdPosC | cmdToggle | cmdOther => exact absurd hstep (by decide)
  | _ => cases hm

theorem decode_heldWord_of_isFg (hstep : m ∈ Mnemonic.steps) (hm : m.isFg = true) :
    decode s.params (heldWord s m) = decodedAt s.params s.fg := by
  rw [heldWord_of_isFg hstep hm, decode_readFg]

/-! The fail-stop (R99). -/

/-- At HALT every foreground position is elsewhere, and `gie = 0` and `isr = None` shut out the handlers and the return:
the environment is left. -/
theorem isEnv_of_enabled_at_halt (hfg : s.fg = .halt) (hgie : s.gie = false) (hisr : s.isr = .none)
    (he : enabled s m = true) : m.isEnv = true := by
  have hoff : s.gie ≠ true := hgie ▸ Bool.false_ne_true
  have hshut : ¬ edgeGate s = true := fun hg => hoff (edgeGate_iff.mp hg).1
  have haway {pos : FgPos} (hat : fgAt s pos = true) : pos = .halt := (fgAt_iff.mp hat).1.symm.trans hfg
  cases m with
  | evRise | evFall | evTick => rfl
  | isrTick => exact absurd (tickEnabled_iff.mp he).1 hoff
  | isrEdgeBegin => exact absurd (Bool.and_eq_true_iff.mp he).1 hshut
  | edgeDouble | edgeRise | edgeFall | edgeNone => exact absurd (edgeGate_of_edgeArm he) hshut
  | fallIdle | fallFull | fallBit0 | fallBit1 | fallHdrOk | fallHdrErr | fallGap =>
    exact absurd (edgeGate_of_fallArm he) hshut
  | isrEdgeEnd => cases hisr.symm.trans (beq_iff_eq.mp he)
  | bootOk | bootHalt => cases haway (Bool.and_eq_true_iff.mp he).1
  | dispClear | dispWait | dispRearm | dispDispatch => cases haway he
  | cmdPosA | cmdPosB | cmdPosC | cmdToggle | cmdOther => cases haway (fgAt_of_cmdArm he)
  | actEnter | actExit =>
    simp only [enabled, Bool.or_eq_true] at he
    obtain (ha | hb) | hc := he
    · cases haway ha
    · cases haway hb
    · cases haway hc

/-- The environment writes the latch and the pending tick at most (R50, R53, R54). -/
theorem env_frame (hi : i.mnemonic.isEnv = true) (h : exec i s = .next t) :
    t = { s with elatch := t.elatch, tpend := t.tpend } := by
  cases i with
  | evRise => rw [← execEvRise_next.mp h]; rfl
  | evFall => rw [← execEvFall_next.mp h]; rfl
  | evTick => rw [← execEvTick_next.mp h]; split <;> rfl
  | _ => cases hi

/-- An admitted line whose word decodes to no step ends the run by the word's name. -/
theorem step_of_reject {r : Reject} (ha : admitted s (nextLine s) = true)
    (hd : decode s.params (heldWord s (nextLine s)) = .reject r) : step s = rejected (nextLine s) r := by
  simp only [step, ha, hd, if_true]

/-- Settles O45: only the environment is enabled, and it writes none of the three; a foreground line reads the word of
HALT. -/
theorem haltIsForEver : Obligations.HaltIsForEver := by
  intro s hfg hgie hisr
  refine ⟨fun i t h => ?_, fun m rest hs hstep hm => ?_⟩
  · have henv : i.mnemonic.isEnv = true := isEnv_of_enabled_at_halt hfg hgie hisr (exec_enabled h)
    rw [env_frame henv h]
    exact ⟨henv, hfg, hgie, hisr⟩
  · obtain rfl : nextLine s = m := nextLine_cons hs
    have hhalted : decode s.params (heldWord s (nextLine s)) = .reject .halted := by
      rw [decode_heldWord_of_isFg hstep hm, hfg, decodedAt]
    exact step_of_reject (admitted_of_isFg hm) hhalted

/-! The lines of a motion (R109). -/

/-- A foreground line plays as the step enabled at the position the foreground stands at. -/
theorem plays_fg (hstep : m ∈ Mnemonic.steps) (hm : m.isFg = true) (hi : decodedAt s.params s.fg = .instr i)
    (hname : i.mnemonic = m) (ht : ∀ rest, exec i { s with script := rest } = .next { t with script := rest }) :
    Plays [m] s t :=
  plays_line (admitted_of_isFg hm) ((decode_heldWord_of_isFg hstep hm).trans hi) hname ht

/-- The arm that commands a position (R73 to R75). -/
def positionArm : Position → CmdArm
  | .a => .posA
  | .b => .posB
  | .c => .posC

/-- The dispatch of a position's code invokes the driver for that position (R72 to R75). -/
theorem exec_dispDispatch_position (hp : s.params.Valid) (hfg : s.fg = .l4) (hisr : s.isr = .none)
    (hq : (positionArm q).Matches s.params s.acc) : exec .dispDispatch s = .next (s.goto (.act q)) := by
  obtain ⟨hA, hB, hC⟩ := positionCommandsInvokeTheDriver s hp hfg hisr
  have harm : exec .dispDispatch s = exec ((positionArm q).instr s.acc) s :=
    hq.selectCmd_eq hp ▸ execDispDispatch_eq (fgAt_iff.mpr ⟨hfg, hisr⟩)
  rw [harm]
  cases q with
  | a => exact hA hq
  | b => exact hB hq
  | c => exact hC hq

theorem plays_dispDispatch_position (hp : s.params.Valid) (hfg : s.fg = .l4) (hisr : s.isr = .none)
    (hq : (positionArm q).Matches s.params s.acc) : Plays [.dispDispatch] s (s.goto (.act q)) :=
  plays_fg (by decide) rfl (by rw [hfg, decodedAt]) rfl fun rest =>
    exec_dispDispatch_position (s := { s with script := rest }) hp hfg hisr hq

/-- ACT_ENTER as a line: the dwell begins (R79). -/
theorem plays_actEnter (hfg : s.fg = .act p) (hisr : s.isr = .none) : Plays [.actEnter] s { s with
    tmr := .pwmCfg p
    tpend := false
    eie := false
    act := .pwm (widthOf s.params p)
    obs := s.obs ++ [.act (.pwm (widthOf s.params p))]
    fg := .dwell p } :=
  plays_fg (by decide) rfl (by rw [hfg, decodedAt]) rfl fun rest =>
    (motionStartsThePulse { s with script := rest } p hfg hisr).1

/-- ACT_EXIT as a line: the dwell ends (R81). -/
theorem plays_actExit (hfg : s.fg = .dwell p) (hisr : s.isr = .none) : Plays [.actExit] s { s with
    act := .low
    obs := s.obs ++ [.act .low]
    tmr := .tickCfg
    elatch := ⟨false, false⟩
    eie := true
    fg := .l1 } :=
  plays_fg (by decide) rfl (by rw [hfg, decodedAt]) rfl fun rest =>
    (motionEndsWithTheTimeBaseRestored { s with script := rest } p hfg hisr).1

/-- Settles O41: the dispatch invokes the driver, whose two steps put the pulse and its end on the trace. -/
theorem positionCodeGivesOneMotion : Obligations.PositionCodeGivesOneMotion := by
  intro s rest q hp hfg hisr hacc hs
  have hq : (positionArm q).Matches s.params s.acc := by cases q <;> exact hacc
  have hdispatch : Plays [.dispDispatch] s (s.goto (.act q)) := plays_dispDispatch_position hp hfg hisr hq
  have hmotion := (hdispatch.append (plays_actEnter rfl hisr)).append (plays_actExit rfl hisr)
  rw [List.append_cons s.obs]
  exact hmotion.runSteps_eq hs

end Sys2Proof.Machine
end
